-- ==== Sys2Proof/Word.lean ====
section
/-! DEFINITION. The two word types of CORE-8 (00_scope.md R6, R7): an 8-bit bus datum and a 16-bit address. -/

namespace Sys2Proof

/-- DATA_W = 8: a bus datum, an 8-bit register, an opcode byte (00_scope.md R6). -/
abbrev Byte := BitVec 8

/-- ADDR_W = 16: a bus address, PC, SP, a pair view (00_scope.md R6). -/
abbrev Word := BitVec 16

end Sys2Proof
end

