-- ==== Sys2Proof/Config.lean ====
section
/-! DEFINITION. The constants of the hardware (00_scope.md R6, 20_memory.md R90). The two OPEN parameters of
92_eei_decisions.md D30 (the open-bus filler, the platform) are data of `Machine.State`, not constants here. -/

namespace Sys2Proof.Config

/-- VEC_RESET (70_reset_and_hazards.md R470). -/
def vecReset : Word := 0x0000#16

/-- VEC_FALLBACK (60_exceptions.md R424). -/
def vecFallback : Word := 0x0000#16

/-- VEC_SWI (46_system.md R340). -/
def vecSwi : Word := 0x0008#16

/-- VEC_UND (46_system.md R345). -/
def vecUnd : Word := 0x0010#16

/-- VEC_INT(i) = 0x0040 + 8*i, i in 0..7 (60_exceptions.md R423). -/
def vecInt (i : BitVec 3) : Word := BitVec.ofNat 16 (0x40 + 8 * i.toNat)

/-- The PREFIX byte (30_encoding.md R120). -/
def prefixValue : Byte := 0xCB#8

/-- FLAG_MASK, the bits of the flag byte that carry a flag (10_state.md R46). -/
def flagMask : Byte := 0xD5#8

/-- FLAG_ONES, the bits of the flag byte forced to 1 (10_state.md R46). -/
def flagOnes : Byte := 0x20#8

end Sys2Proof.Config
end

