-- ==== Sys2Proof/Syntax.lean ====
section
/-! DEFINITION. The instructions of CORE-8 as syntax: one constructor for each of the 101 rows of
spec/opcode_table.json (30_encoding.md R121, R122), and the operand codes they carry (R113 to R117). -/

namespace Sys2Proof

/-- A 3-bit field of an opcode byte (30_encoding.md R111): field y or z, a bit number b, a trap number t. -/
inductive Oct where
  | o0 | o1 | o2 | o3 | o4 | o5 | o6 | o7
deriving DecidableEq, Repr

/-- A 2-bit field of an opcode byte (30_encoding.md R111): field x (block) or p (pair code). -/
inductive Quad where
  | q0 | q1 | q2 | q3
deriving DecidableEq, Repr

/-- The seven register operands of the register code table; code 6, (HL), is no register and has rows of its
own (30_encoding.md R113), so a register operand with code 6 cannot be written (R140). -/
inductive Reg where
  | b | c | d | e | h | l | a
deriving DecidableEq, Repr

/-- Pair codes of the field pp: BC, DE, HL, SP (30_encoding.md R114). -/
inductive Pair where
  | bc | de | hl | sp
deriving DecidableEq, Repr

/-- Pair codes of the field qq in the rows PUSH qq and POP qq: BC, DE, HL; code 3, AF, has rows of its own
(30_encoding.md R114, 43_load16_stack.md R272, R273). -/
inductive PairQ where
  | bc | de | hl
deriving DecidableEq, Repr

/-- Condition codes of the field ccc (30_encoding.md R115). -/
inductive Cond where
  | nz | z | nc | c | nv | v | p | m
deriving DecidableEq, Repr

/-- One constructor per row of spec/opcode_table.json, in the table's order. `M` in a name stands for the
memory operand (HL). The displacement d and the offset e are the raw bytes, signed by the rules that use them
(30_encoding.md R117). -/
inductive Instr where
  /-- NOP: `00000000`, primary table, rule R330. -/
  | nop
  /-- JR e: `00001000 eeeeeeee`, primary table, rule R301. -/
  | jr (off : Byte)
  /-- DI: `00010000`, primary table, rule R333. -/
  | di
  /-- EI: `00011000`, primary table, rule R332. -/
  | ei
  /-- SCF: `00100000`, primary table, rule R247. -/
  | scf
  /-- CCF: `00101000`, primary table, rule R248. -/
  | ccf
  /-- CPL: `00110000`, primary table, rule R246. -/
  | cpl
  /-- SWI: `00111000`, primary table, rule R340. -/
  | swi
  /-- LD pp,nn: `00pp0001 llllllll hhhhhhhh`, primary table, rule R270. -/
  | ldPpNn (pp : Pair) (nn : Word)
  /-- ADD HL,pp: `00pp1001`, primary table, rule R292. -/
  | addHlPp (pp : Pair)
  /-- LD (BC),A: `00000010`, primary table, rule R207. -/
  | ldBcA
  /-- LD A,(BC): `00001010`, primary table, rule R205. -/
  | ldABc
  /-- LD (DE),A: `00010010`, primary table, rule R208. -/
  | ldDeA
  /-- LD A,(DE): `00011010`, primary table, rule R206. -/
  | ldADe
  /-- LD (nn),A: `00100010 llllllll hhhhhhhh`, primary table, rule R210. -/
  | ldNnA (nn : Word)
  /-- LD A,(nn): `00101010 llllllll hhhhhhhh`, primary table, rule R209. -/
  | ldANn (nn : Word)
  /-- LD (HL+d),A: `00110010 dddddddd`, primary table, rule R212. -/
  | ldHldA (disp : Byte)
  /-- LD A,(HL+d): `00111010 dddddddd`, primary table, rule R211. -/
  | ldAHld (disp : Byte)
  /-- INC pp: `00pp0011`, primary table, rule R290. -/
  | incPp (pp : Pair)
  /-- DEC pp: `00pp1011`, primary table, rule R291. -/
  | decPp (pp : Pair)
  /-- INC r: `00rrr100`, primary table, rule R242. -/
  | incR (r : Reg)
  /-- INC (HL): `00110100`, primary table, rule R243. -/
  | incM
  /-- DEC r: `00rrr101`, primary table, rule R244. -/
  | decR (r : Reg)
  /-- DEC (HL): `00110101`, primary table, rule R245. -/
  | decM
  /-- LD r,n: `00rrr110 nnnnnnnn`, primary table, rule R203. -/
  | ldRN (r : Reg) (n : Byte)
  /-- LD (HL),n: `00110110 nnnnnnnn`, primary table, rule R204. -/
  | ldMN (n : Byte)
  /-- JR cc,e: `00ccc111 eeeeeeee`, primary table, rule R302. -/
  | jrCc (cc : Cond) (off : Byte)
  /-- LD r,r': `01dddsss`, primary table, rule R200. -/
  | ldRR (dst : Reg) (src : Reg)
  /-- LD r,(HL): `01ddd110`, primary table, rule R201. -/
  | ldRM (dst : Reg)
  /-- LD (HL),r: `01110sss`, primary table, rule R202. -/
  | ldMR (src : Reg)
  /-- HALT: `01110110`, primary table, rule R331. -/
  | halt
  /-- ADD A,r: `10000sss`, primary table, rule R234. -/
  | addAR (r : Reg)
  /-- ADD A,(HL): `10000110`, primary table, rule R234. -/
  | addAM
  /-- ADD A,n: `11000110 nnnnnnnn`, primary table, rule R234. -/
  | addAN (n : Byte)
  /-- ADC A,r: `10001sss`, primary table, rule R235. -/
  | adcAR (r : Reg)
  /-- ADC A,(HL): `10001110`, primary table, rule R235. -/
  | adcAM
  /-- ADC A,n: `11001110 nnnnnnnn`, primary table, rule R235. -/
  | adcAN (n : Byte)
  /-- SUB A,r: `10010sss`, primary table, rule R236. -/
  | subAR (r : Reg)
  /-- SUB A,(HL): `10010110`, primary table, rule R236. -/
  | subAM
  /-- SUB A,n: `11010110 nnnnnnnn`, primary table, rule R236. -/
  | subAN (n : Byte)
  /-- SBC A,r: `10011sss`, primary table, rule R237. -/
  | sbcAR (r : Reg)
  /-- SBC A,(HL): `10011110`, primary table, rule R237. -/
  | sbcAM
  /-- SBC A,n: `11011110 nnnnnnnn`, primary table, rule R237. -/
  | sbcAN (n : Byte)
  /-- AND A,r: `10100sss`, primary table, rule R238. -/
  | andAR (r : Reg)
  /-- AND A,(HL): `10100110`, primary table, rule R238. -/
  | andAM
  /-- AND A,n: `11100110 nnnnnnnn`, primary table, rule R238. -/
  | andAN (n : Byte)
  /-- XOR A,r: `10101sss`, primary table, rule R239. -/
  | xorAR (r : Reg)
  /-- XOR A,(HL): `10101110`, primary table, rule R239. -/
  | xorAM
  /-- XOR A,n: `11101110 nnnnnnnn`, primary table, rule R239. -/
  | xorAN (n : Byte)
  /-- OR A,r: `10110sss`, primary table, rule R240. -/
  | orAR (r : Reg)
  /-- OR A,(HL): `10110110`, primary table, rule R240. -/
  | orAM
  /-- OR A,n: `11110110 nnnnnnnn`, primary table, rule R240. -/
  | orAN (n : Byte)
  /-- CP A,r: `10111sss`, primary table, rule R241. -/
  | cpAR (r : Reg)
  /-- CP A,(HL): `10111110`, primary table, rule R241. -/
  | cpAM
  /-- CP A,n: `11111110 nnnnnnnn`, primary table, rule R241. -/
  | cpAN (n : Byte)
  /-- RET cc: `11ccc000`, primary table, rule R309. -/
  | retCc (cc : Cond)
  /-- POP qq: `11qq0001`, primary table, rule R273. -/
  | popQq (qq : PairQ)
  /-- POP AF: `11110001`, primary table, rule R275. -/
  | popAf
  /-- RET: `11001001`, primary table, rule R308. -/
  | ret
  /-- RETI: `11011001`, primary table, rule R310. -/
  | reti
  /-- JP (HL): `11101001`, primary table, rule R305. -/
  | jpHl
  /-- LD SP,HL: `11111001`, primary table, rule R271. -/
  | ldSpHl
  /-- JP cc,nn: `11ccc010 llllllll hhhhhhhh`, primary table, rule R304. -/
  | jpCc (cc : Cond) (nn : Word)
  /-- JP nn: `11000011 llllllll hhhhhhhh`, primary table, rule R303. -/
  | jp (nn : Word)
  /-- PREFIX: `11001011`, primary table, rule R120. -/
  | prefixByte
  /-- UND.ALIAS 0xD3: `11010011`, primary table, rule R343. -/
  | undAliasD3
  /-- UND.ALIAS 0xDB: `11011011`, primary table, rule R343. -/
  | undAliasDB
  /-- UND.ALIAS 0xE3: `11100011`, primary table, rule R343. -/
  | undAliasE3
  /-- UND.ALIAS 0xEB: `11101011`, primary table, rule R343. -/
  | undAliasEB
  /-- LD F,A: `11110011`, primary table, rule R339. -/
  | ldFA
  /-- LD A,F: `11111011`, primary table, rule R338. -/
  | ldAF
  /-- CALL cc,nn: `11ccc100 llllllll hhhhhhhh`, primary table, rule R307. -/
  | callCc (cc : Cond) (nn : Word)
  /-- PUSH qq: `11qq0101`, primary table, rule R272. -/
  | pushQq (qq : PairQ)
  /-- PUSH AF: `11110101`, primary table, rule R274. -/
  | pushAf
  /-- CALL nn: `11001101 llllllll hhhhhhhh`, primary table, rule R306. -/
  | call (nn : Word)
  /-- UND.LOCK 0xDD: `11011101`, primary table, rule R344. -/
  | undLockDD
  /-- UND.LOCK 0xED: `11101101`, primary table, rule R344. -/
  | undLockED
  /-- UND.LOCK 0xFD: `11111101`, primary table, rule R344. -/
  | undLockFD
  /-- UND.TRAP t: `11ttt111`, primary table, rule R345. -/
  | undTrap (t : Oct)
  /-- RLC r: `11001011 00000sss`, prefixed table, rule R361. -/
  | rlcR (r : Reg)
  /-- RLC (HL): `11001011 00000110`, prefixed table, rule R361. -/
  | rlcM
  /-- RRC r: `11001011 00001sss`, prefixed table, rule R362. -/
  | rrcR (r : Reg)
  /-- RRC (HL): `11001011 00001110`, prefixed table, rule R362. -/
  | rrcM
  /-- RL r: `11001011 00010sss`, prefixed table, rule R363. -/
  | rlR (r : Reg)
  /-- RL (HL): `11001011 00010110`, prefixed table, rule R363. -/
  | rlM
  /-- RR r: `11001011 00011sss`, prefixed table, rule R364. -/
  | rrR (r : Reg)
  /-- RR (HL): `11001011 00011110`, prefixed table, rule R364. -/
  | rrM
  /-- SLA r: `11001011 00100sss`, prefixed table, rule R365. -/
  | slaR (r : Reg)
  /-- SLA (HL): `11001011 00100110`, prefixed table, rule R365. -/
  | slaM
  /-- SRA r: `11001011 00101sss`, prefixed table, rule R366. -/
  | sraR (r : Reg)
  /-- SRA (HL): `11001011 00101110`, prefixed table, rule R366. -/
  | sraM
  /-- SWAP r: `11001011 00110sss`, prefixed table, rule R367. -/
  | swapR (r : Reg)
  /-- SWAP (HL): `11001011 00110110`, prefixed table, rule R367. -/
  | swapM
  /-- SRL r: `11001011 00111sss`, prefixed table, rule R368. -/
  | srlR (r : Reg)
  /-- SRL (HL): `11001011 00111110`, prefixed table, rule R368. -/
  | srlM
  /-- BIT b,r: `11001011 01bbbsss`, prefixed table, rule R369. -/
  | bitR (b : Oct) (r : Reg)
  /-- BIT b,(HL): `11001011 01bbb110`, prefixed table, rule R369. -/
  | bitM (b : Oct)
  /-- RES b,r: `11001011 10bbbsss`, prefixed table, rule R370. -/
  | resR (b : Oct) (r : Reg)
  /-- RES b,(HL): `11001011 10bbb110`, prefixed table, rule R370. -/
  | resM (b : Oct)
  /-- SET b,r: `11001011 11bbbsss`, prefixed table, rule R371. -/
  | setR (b : Oct) (r : Reg)
  /-- SET b,(HL): `11001011 11bbb110`, prefixed table, rule R371. -/
  | setM (b : Oct)
deriving DecidableEq, Repr

end Sys2Proof
end

