-- ==== Sys2Proof/WellFormed.lean ====
section
/-! DEFINITION. Well-formed instructions. Every value of every operand is legal (30_encoding.md R124), and a
register code 6 in a register-only row cannot be written in `Instr` (R113, R140). The one check left is that the
row PREFIX is no complete instruction (R120). -/

namespace Sys2Proof

/-- The prefix byte alone is not an instruction: it needs the byte after it (30_encoding.md R120, R127). -/
def Instr.isComplete (i : Instr) : Bool := i != .prefixByte

/-- A well-formed instruction: complete. -/
def WellFormed (i : Instr) : Bool := i.isComplete

end Sys2Proof
end

