-- ==== Sys2Proof/Decode.lean ====
section
/-! DEFINITION. Decoding bytes to instructions and encoding instructions to bytes (30_encoding.md). The decoder is
total over both opcode tables (R118, R119); on a list of bytes it rejects, by name, only a list too short to hold
the instruction it begins. Byte-order helpers of 00_scope.md R7 stand here too. -/

namespace Sys2Proof

/-! ### Bytes of a word (00_scope.md R7, 20_memory.md R80) -/

/-- `hi(v)` = v[15:8] (00_scope.md R7). -/
def hiByte (v : Word) : Byte := v.extractLsb' 8 8

/-- `lo(v)` = v[7:0] (00_scope.md R7). -/
def loByte (v : Word) : Byte := v.extractLsb' 0 8

/-- `a:b`, a the high part (00_scope.md R7). -/
def joinBytes (hi lo : Byte) : Word := hi ++ lo

/-! ### Fields of an opcode byte (30_encoding.md R111) -/

/-- A 3-bit field as its number 0 to 7 (30_encoding.md R111). -/
def Oct.number : Oct → Nat
  | .o0 => 0 | .o1 => 1 | .o2 => 2 | .o3 => 3 | .o4 => 4 | .o5 => 5 | .o6 => 6 | .o7 => 7

/-- The 3-bit field whose number is `n` mod 8 (30_encoding.md R111). -/
def octOf (n : Nat) : Oct :=
  match n % 8 with
  | 0 => .o0 | 1 => .o1 | 2 => .o2 | 3 => .o3 | 4 => .o4 | 5 => .o5 | 6 => .o6 | _ => .o7

/-- A 2-bit field as its number 0 to 3 (30_encoding.md R111). -/
def Quad.number : Quad → Nat
  | .q0 => 0 | .q1 => 1 | .q2 => 2 | .q3 => 3

/-- Field x = op[7:6], the block (30_encoding.md R111). -/
def fieldX (op : Byte) : Quad :=
  match op.toNat / 64 with
  | 0 => .q0 | 1 => .q1 | 2 => .q2 | _ => .q3

/-- Field y = op[5:3] (30_encoding.md R111). -/
def fieldY (op : Byte) : Oct := octOf (op.toNat / 8)

/-- Field z = op[2:0] (30_encoding.md R111). -/
def fieldZ (op : Byte) : Oct := octOf op.toNat

/-- The opcode byte with the fields x, y, z (30_encoding.md R111). -/
def opcodeByte (x : Quad) (y z : Oct) : Byte := BitVec.ofNat 8 (64 * x.number + 8 * y.number + z.number)

/-- Field y split into p = op[5:4] and q = op[3] (30_encoding.md R111). -/
def splitPQ : Oct → Quad × Bool
  | .o0 => (.q0, false) | .o1 => (.q0, true) | .o2 => (.q1, false) | .o3 => (.q1, true)
  | .o4 => (.q2, false) | .o5 => (.q2, true) | .o6 => (.q3, false) | .o7 => (.q3, true)

/-- Field y from p and q (30_encoding.md R111). -/
def joinPQ : Quad → Bool → Oct
  | .q0, false => .o0 | .q0, true => .o1 | .q1, false => .o2 | .q1, true => .o3
  | .q2, false => .o4 | .q2, true => .o5 | .q3, false => .o6 | .q3, true => .o7

/-! ### Operand codes (30_encoding.md R113 to R115) -/

/-- Register codes; code 6 is the memory operand (HL), no register (30_encoding.md R113). -/
def Reg.ofCode : Oct → Option Reg
  | .o0 => some .b | .o1 => some .c | .o2 => some .d | .o3 => some .e
  | .o4 => some .h | .o5 => some .l | .o6 => none | .o7 => some .a

/-- The code of a register (30_encoding.md R113). -/
def Reg.code : Reg → Oct
  | .b => .o0 | .c => .o1 | .d => .o2 | .e => .o3 | .h => .o4 | .l => .o5 | .a => .o7

/-- Pair codes pp (30_encoding.md R114). -/
def Pair.ofCode : Quad → Pair
  | .q0 => .bc | .q1 => .de | .q2 => .hl | .q3 => .sp

/-- The code pp of a pair (30_encoding.md R114). -/
def Pair.code : Pair → Quad
  | .bc => .q0 | .de => .q1 | .hl => .q2 | .sp => .q3

/-- Pair codes qq; code 3 is AF, which has rows of its own (30_encoding.md R114). -/
def PairQ.ofCode : Quad → Option PairQ
  | .q0 => some .bc | .q1 => some .de | .q2 => some .hl | .q3 => none

/-- The code qq of a pair (30_encoding.md R114). -/
def PairQ.code : PairQ → Quad
  | .bc => .q0 | .de => .q1 | .hl => .q2

/-- The pair of a code qq other than AF (10_state.md R36). -/
def PairQ.toPair : PairQ → Pair
  | .bc => .bc
  | .de => .de
  | .hl => .hl

/-- Condition codes (30_encoding.md R115). -/
def Cond.ofCode : Oct → Cond
  | .o0 => .nz | .o1 => .z | .o2 => .nc | .o3 => .c | .o4 => .nv | .o5 => .v | .o6 => .p | .o7 => .m

/-- The code of a condition (30_encoding.md R115). -/
def Cond.code : Cond → Oct
  | .nz => .o0 | .z => .o1 | .nc => .o2 | .c => .o3 | .nv => .o4 | .v => .o5 | .p => .o6 | .m => .o7

/-! ### The primary table (30_encoding.md R121) -/

/-- Block x = 0 (30_encoding.md R121). -/
def decodeBlock0 (y z : Oct) (b1 b2 : Byte) : Instr :=
  match z with
  | .o0 =>
    match y with
    | .o0 => .nop | .o1 => .jr b1 | .o2 => .di | .o3 => .ei
    | .o4 => .scf | .o5 => .ccf | .o6 => .cpl | .o7 => .swi
  | .o1 =>
    match splitPQ y with
    | (p, false) => .ldPpNn (Pair.ofCode p) (joinBytes b2 b1)
    | (p, true) => .addHlPp (Pair.ofCode p)
  | .o2 =>
    match y with
    | .o0 => .ldBcA | .o1 => .ldABc | .o2 => .ldDeA | .o3 => .ldADe
    | .o4 => .ldNnA (joinBytes b2 b1) | .o5 => .ldANn (joinBytes b2 b1)
    | .o6 => .ldHldA b1 | .o7 => .ldAHld b1
  | .o3 =>
    match splitPQ y with
    | (p, false) => .incPp (Pair.ofCode p)
    | (p, true) => .decPp (Pair.ofCode p)
  | .o4 =>
    match Reg.ofCode y with
    | some r => .incR r
    | none => .incM
  | .o5 =>
    match Reg.ofCode y with
    | some r => .decR r
    | none => .decM
  | .o6 =>
    match Reg.ofCode y with
    | some r => .ldRN r b1
    | none => .ldMN b1
  | .o7 => .jrCc (Cond.ofCode y) b1

/-- Block x = 1: the loads 01dddsss, with HALT at d = s = 6 (30_encoding.md R121). -/
def decodeBlock1 (y z : Oct) : Instr :=
  match Reg.ofCode y, Reg.ofCode z with
  | some dst, some src => .ldRR dst src
  | some dst, none => .ldRM dst
  | none, some src => .ldMR src
  | none, none => .halt

/-- Block x = 2: arithmetic on A and a register or (HL) (30_encoding.md R116, R121). -/
def decodeBlock2 (y z : Oct) : Instr :=
  match y, Reg.ofCode z with
  | .o0, some r => .addAR r | .o0, none => .addAM
  | .o1, some r => .adcAR r | .o1, none => .adcAM
  | .o2, some r => .subAR r | .o2, none => .subAM
  | .o3, some r => .sbcAR r | .o3, none => .sbcAM
  | .o4, some r => .andAR r | .o4, none => .andAM
  | .o5, some r => .xorAR r | .o5, none => .xorAM
  | .o6, some r => .orAR r | .o6, none => .orAM
  | .o7, some r => .cpAR r | .o7, none => .cpAM

/-- Block x = 3 (30_encoding.md R121), the undefined opcodes of R123 included. -/
def decodeBlock3 (y z : Oct) (b1 b2 : Byte) : Instr :=
  match z with
  | .o0 => .retCc (Cond.ofCode y)
  | .o1 =>
    match splitPQ y with
    | (p, false) =>
      match PairQ.ofCode p with
      | some qq => .popQq qq
      | none => .popAf
    | (.q0, true) => .ret
    | (.q1, true) => .reti
    | (.q2, true) => .jpHl
    | (.q3, true) => .ldSpHl
  | .o2 => .jpCc (Cond.ofCode y) (joinBytes b2 b1)
  | .o3 =>
    match y with
    | .o0 => .jp (joinBytes b2 b1) | .o1 => .prefixByte
    | .o2 => .undAliasD3 | .o3 => .undAliasDB | .o4 => .undAliasE3 | .o5 => .undAliasEB
    | .o6 => .ldFA | .o7 => .ldAF
  | .o4 => .callCc (Cond.ofCode y) (joinBytes b2 b1)
  | .o5 =>
    match splitPQ y with
    | (p, false) =>
      match PairQ.ofCode p with
      | some qq => .pushQq qq
      | none => .pushAf
    | (.q0, true) => .call (joinBytes b2 b1)
    | (.q1, true) => .undLockDD
    | (.q2, true) => .undLockED
    | (.q3, true) => .undLockFD
  | .o6 =>
    match y with
    | .o0 => .addAN b1 | .o1 => .adcAN b1 | .o2 => .subAN b1 | .o3 => .sbcAN b1
    | .o4 => .andAN b1 | .o5 => .xorAN b1 | .o6 => .orAN b1 | .o7 => .cpAN b1
  | .o7 => .undTrap y

/-- The primary table: the row of the opcode byte `op`, with the operand bytes `b1`, `b2` that follow it. It is
total, and gives the row PREFIX for 0xCB (30_encoding.md R118, R121). -/
def decodePrimary (op b1 b2 : Byte) : Instr :=
  match fieldX op with
  | .q0 => decodeBlock0 (fieldY op) (fieldZ op) b1 b2
  | .q1 => decodeBlock1 (fieldY op) (fieldZ op)
  | .q2 => decodeBlock2 (fieldY op) (fieldZ op)
  | .q3 => decodeBlock3 (fieldY op) (fieldZ op) b1 b2

/-! ### The prefixed table (30_encoding.md R122) -/

/-- The prefixed table: total, no undefined opcode (30_encoding.md R116, R122). -/
def decodePrefixed (op : Byte) : Instr :=
  match fieldX op, fieldY op, Reg.ofCode (fieldZ op) with
  | .q0, .o0, some r => .rlcR r | .q0, .o0, none => .rlcM
  | .q0, .o1, some r => .rrcR r | .q0, .o1, none => .rrcM
  | .q0, .o2, some r => .rlR r | .q0, .o2, none => .rlM
  | .q0, .o3, some r => .rrR r | .q0, .o3, none => .rrM
  | .q0, .o4, some r => .slaR r | .q0, .o4, none => .slaM
  | .q0, .o5, some r => .sraR r | .q0, .o5, none => .sraM
  | .q0, .o6, some r => .swapR r | .q0, .o6, none => .swapM
  | .q0, .o7, some r => .srlR r | .q0, .o7, none => .srlM
  | .q1, b, some r => .bitR b r | .q1, b, none => .bitM b
  | .q2, b, some r => .resR b r | .q2, b, none => .resM b
  | .q3, b, some r => .setR b r | .q3, b, none => .setM b

/-! ### Dispatch over the bytes (30_encoding.md R119) -/

/-- The instruction that the bytes `b0`, `b1`, `b2` begin: 0xCB sends `b1` to the prefixed table, any other `b0` is
looked up in the primary table (30_encoding.md R110, R119, R120). -/
def decodeAt (b0 b1 b2 : Byte) : Instr :=
  if b0 = Config.prefixValue then decodePrefixed b1 else decodePrimary b0 b1 b2

/-- The length in bytes, from the format of the instruction's row: P1 is 1; P2n, P2e, P2d and X2 are 2; P3 is 3
(30_encoding.md R110). The row PREFIX is counted as the one byte 0xCB it is. -/
def Instr.length : Instr → Nat
  | .nop => 1
  | .jr _ => 2
  | .di => 1
  | .ei => 1
  | .scf => 1
  | .ccf => 1
  | .cpl => 1
  | .swi => 1
  | .ldPpNn _ _ => 3
  | .addHlPp _ => 1
  | .ldBcA => 1
  | .ldABc => 1
  | .ldDeA => 1
  | .ldADe => 1
  | .ldNnA _ => 3
  | .ldANn _ => 3
  | .ldHldA _ => 2
  | .ldAHld _ => 2
  | .incPp _ => 1
  | .decPp _ => 1
  | .incR _ => 1
  | .incM => 1
  | .decR _ => 1
  | .decM => 1
  | .ldRN _ _ => 2
  | .ldMN _ => 2
  | .jrCc _ _ => 2
  | .ldRR _ _ => 1
  | .ldRM _ => 1
  | .ldMR _ => 1
  | .halt => 1
  | .addAR _ => 1
  | .addAM => 1
  | .addAN _ => 2
  | .adcAR _ => 1
  | .adcAM => 1
  | .adcAN _ => 2
  | .subAR _ => 1
  | .subAM => 1
  | .subAN _ => 2
  | .sbcAR _ => 1
  | .sbcAM => 1
  | .sbcAN _ => 2
  | .andAR _ => 1
  | .andAM => 1
  | .andAN _ => 2
  | .xorAR _ => 1
  | .xorAM => 1
  | .xorAN _ => 2
  | .orAR _ => 1
  | .orAM => 1
  | .orAN _ => 2
  | .cpAR _ => 1
  | .cpAM => 1
  | .cpAN _ => 2
  | .retCc _ => 1
  | .popQq _ => 1
  | .popAf => 1
  | .ret => 1
  | .reti => 1
  | .jpHl => 1
  | .ldSpHl => 1
  | .jpCc _ _ => 3
  | .jp _ => 3
  | .prefixByte => 1
  | .undAliasD3 => 1
  | .undAliasDB => 1
  | .undAliasE3 => 1
  | .undAliasEB => 1
  | .ldFA => 1
  | .ldAF => 1
  | .callCc _ _ => 3
  | .pushQq _ => 1
  | .pushAf => 1
  | .call _ => 3
  | .undLockDD => 1
  | .undLockED => 1
  | .undLockFD => 1
  | .undTrap _ => 1
  | .rlcR _ => 2
  | .rlcM => 2
  | .rrcR _ => 2
  | .rrcM => 2
  | .rlR _ => 2
  | .rlM => 2
  | .rrR _ => 2
  | .rrM => 2
  | .slaR _ => 2
  | .slaM => 2
  | .sraR _ => 2
  | .sraM => 2
  | .swapR _ => 2
  | .swapM => 2
  | .srlR _ => 2
  | .srlM => 2
  | .bitR _ _ => 2
  | .bitM _ => 2
  | .resR _ _ => 2
  | .resM _ => 2
  | .setR _ _ => 2
  | .setM _ => 2

/-- The length of the instruction that begins with the opcode byte `b0`; it is known after byte 0
(30_encoding.md R110). -/
def lengthOf (b0 : Byte) : Nat := (decodeAt b0 0 0).length

/-- Why a list of bytes is rejected. -/
inductive DecodeError where
  /-- The list is empty: there is no opcode byte. -/
  | noOpcodeByte
  /-- The list ends before the instruction it begins (30_encoding.md R110). -/
  | truncated
deriving DecidableEq, Repr

/-- Decodes the first instruction of a list of bytes and gives the bytes after it (30_encoding.md R110, R119). -/
def decode : List Byte → Except DecodeError (Instr × List Byte)
  | [] => .error .noOpcodeByte
  | b0 :: rest =>
    if rest.length + 1 < lengthOf b0 then .error .truncated
    else .ok (decodeAt b0 (rest.getD 0 0) (rest.getD 1 0), rest.drop (lengthOf b0 - 1))

/-- The instruction the decoder reads from the `nbits` bits of `w`, bit 0 the least significant bit of the first
byte and the second byte in bits 15..8; bytes past `nbits` are 0 (00_scope.md R7, 30_encoding.md R110). -/
def tableBytes (nbits w : Nat) : List Byte :=
  let v := w % 2 ^ nbits
  [BitVec.ofNat 8 v, BitVec.ofNat 8 (v / 256), BitVec.ofNat 8 (v / 65536)]

/-- What the decoder reads from an opcode-table word (log 10). -/
def decodeTableWord (nbits w : Nat) : Option Instr :=
  match decode (tableBytes nbits w) with
  | .ok (i, _) => some i
  | .error _ => none

/-! ### The encoder -/

/-- The bytes of an instruction, at ascending addresses (30_encoding.md R110, R117, R121, R122). The row PREFIX
alone is its one byte. -/
def encode : Instr → List Byte
  | .nop => [opcodeByte .q0 .o0 .o0]
  | .jr off => [opcodeByte .q0 .o1 .o0, off]
  | .di => [opcodeByte .q0 .o2 .o0]
  | .ei => [opcodeByte .q0 .o3 .o0]
  | .scf => [opcodeByte .q0 .o4 .o0]
  | .ccf => [opcodeByte .q0 .o5 .o0]
  | .cpl => [opcodeByte .q0 .o6 .o0]
  | .swi => [opcodeByte .q0 .o7 .o0]
  | .ldPpNn pp nn => [opcodeByte .q0 (joinPQ pp.code false) .o1, loByte nn, hiByte nn]
  | .addHlPp pp => [opcodeByte .q0 (joinPQ pp.code true) .o1]
  | .ldBcA => [opcodeByte .q0 .o0 .o2]
  | .ldABc => [opcodeByte .q0 .o1 .o2]
  | .ldDeA => [opcodeByte .q0 .o2 .o2]
  | .ldADe => [opcodeByte .q0 .o3 .o2]
  | .ldNnA nn => [opcodeByte .q0 .o4 .o2, loByte nn, hiByte nn]
  | .ldANn nn => [opcodeByte .q0 .o5 .o2, loByte nn, hiByte nn]
  | .ldHldA disp => [opcodeByte .q0 .o6 .o2, disp]
  | .ldAHld disp => [opcodeByte .q0 .o7 .o2, disp]
  | .incPp pp => [opcodeByte .q0 (joinPQ pp.code false) .o3]
  | .decPp pp => [opcodeByte .q0 (joinPQ pp.code true) .o3]
  | .incR r => [opcodeByte .q0 r.code .o4]
  | .incM => [opcodeByte .q0 .o6 .o4]
  | .decR r => [opcodeByte .q0 r.code .o5]
  | .decM => [opcodeByte .q0 .o6 .o5]
  | .ldRN r n => [opcodeByte .q0 r.code .o6, n]
  | .ldMN n => [opcodeByte .q0 .o6 .o6, n]
  | .jrCc cc off => [opcodeByte .q0 cc.code .o7, off]
  | .ldRR dst src => [opcodeByte .q1 dst.code src.code]
  | .ldRM dst => [opcodeByte .q1 dst.code .o6]
  | .ldMR src => [opcodeByte .q1 .o6 src.code]
  | .halt => [opcodeByte .q1 .o6 .o6]
  | .addAR r => [opcodeByte .q2 .o0 r.code]
  | .addAM => [opcodeByte .q2 .o0 .o6]
  | .addAN n => [opcodeByte .q3 .o0 .o6, n]
  | .adcAR r => [opcodeByte .q2 .o1 r.code]
  | .adcAM => [opcodeByte .q2 .o1 .o6]
  | .adcAN n => [opcodeByte .q3 .o1 .o6, n]
  | .subAR r => [opcodeByte .q2 .o2 r.code]
  | .subAM => [opcodeByte .q2 .o2 .o6]
  | .subAN n => [opcodeByte .q3 .o2 .o6, n]
  | .sbcAR r => [opcodeByte .q2 .o3 r.code]
  | .sbcAM => [opcodeByte .q2 .o3 .o6]
  | .sbcAN n => [opcodeByte .q3 .o3 .o6, n]
  | .andAR r => [opcodeByte .q2 .o4 r.code]
  | .andAM => [opcodeByte .q2 .o4 .o6]
  | .andAN n => [opcodeByte .q3 .o4 .o6, n]
  | .xorAR r => [opcodeByte .q2 .o5 r.code]
  | .xorAM => [opcodeByte .q2 .o5 .o6]
  | .xorAN n => [opcodeByte .q3 .o5 .o6, n]
  | .orAR r => [opcodeByte .q2 .o6 r.code]
  | .orAM => [opcodeByte .q2 .o6 .o6]
  | .orAN n => [opcodeByte .q3 .o6 .o6, n]
  | .cpAR r => [opcodeByte .q2 .o7 r.code]
  | .cpAM => [opcodeByte .q2 .o7 .o6]
  | .cpAN n => [opcodeByte .q3 .o7 .o6, n]
  | .retCc cc => [opcodeByte .q3 cc.code .o0]
  | .popQq qq => [opcodeByte .q3 (joinPQ qq.code false) .o1]
  | .popAf => [opcodeByte .q3 .o6 .o1]
  | .ret => [opcodeByte .q3 .o1 .o1]
  | .reti => [opcodeByte .q3 .o3 .o1]
  | .jpHl => [opcodeByte .q3 .o5 .o1]
  | .ldSpHl => [opcodeByte .q3 .o7 .o1]
  | .jpCc cc nn => [opcodeByte .q3 cc.code .o2, loByte nn, hiByte nn]
  | .jp nn => [opcodeByte .q3 .o0 .o3, loByte nn, hiByte nn]
  | .prefixByte => [opcodeByte .q3 .o1 .o3]
  | .undAliasD3 => [opcodeByte .q3 .o2 .o3]
  | .undAliasDB => [opcodeByte .q3 .o3 .o3]
  | .undAliasE3 => [opcodeByte .q3 .o4 .o3]
  | .undAliasEB => [opcodeByte .q3 .o5 .o3]
  | .ldFA => [opcodeByte .q3 .o6 .o3]
  | .ldAF => [opcodeByte .q3 .o7 .o3]
  | .callCc cc nn => [opcodeByte .q3 cc.code .o4, loByte nn, hiByte nn]
  | .pushQq qq => [opcodeByte .q3 (joinPQ qq.code false) .o5]
  | .pushAf => [opcodeByte .q3 .o6 .o5]
  | .call nn => [opcodeByte .q3 .o1 .o5, loByte nn, hiByte nn]
  | .undLockDD => [opcodeByte .q3 .o3 .o5]
  | .undLockED => [opcodeByte .q3 .o5 .o5]
  | .undLockFD => [opcodeByte .q3 .o7 .o5]
  | .undTrap t => [opcodeByte .q3 t .o7]
  | .rlcR r => [Config.prefixValue, opcodeByte .q0 .o0 r.code]
  | .rlcM => [Config.prefixValue, opcodeByte .q0 .o0 .o6]
  | .rrcR r => [Config.prefixValue, opcodeByte .q0 .o1 r.code]
  | .rrcM => [Config.prefixValue, opcodeByte .q0 .o1 .o6]
  | .rlR r => [Config.prefixValue, opcodeByte .q0 .o2 r.code]
  | .rlM => [Config.prefixValue, opcodeByte .q0 .o2 .o6]
  | .rrR r => [Config.prefixValue, opcodeByte .q0 .o3 r.code]
  | .rrM => [Config.prefixValue, opcodeByte .q0 .o3 .o6]
  | .slaR r => [Config.prefixValue, opcodeByte .q0 .o4 r.code]
  | .slaM => [Config.prefixValue, opcodeByte .q0 .o4 .o6]
  | .sraR r => [Config.prefixValue, opcodeByte .q0 .o5 r.code]
  | .sraM => [Config.prefixValue, opcodeByte .q0 .o5 .o6]
  | .swapR r => [Config.prefixValue, opcodeByte .q0 .o6 r.code]
  | .swapM => [Config.prefixValue, opcodeByte .q0 .o6 .o6]
  | .srlR r => [Config.prefixValue, opcodeByte .q0 .o7 r.code]
  | .srlM => [Config.prefixValue, opcodeByte .q0 .o7 .o6]
  | .bitR b r => [Config.prefixValue, opcodeByte .q1 b r.code]
  | .bitM b => [Config.prefixValue, opcodeByte .q1 b .o6]
  | .resR b r => [Config.prefixValue, opcodeByte .q2 b r.code]
  | .resM b => [Config.prefixValue, opcodeByte .q2 b .o6]
  | .setR b r => [Config.prefixValue, opcodeByte .q3 b r.code]
  | .setM b => [Config.prefixValue, opcodeByte .q3 b .o6]

/-! ### The opcode table as data (30_encoding.md R118, R119, R127) -/

/-- One row of spec/opcode_table.json: `mask` and `pattern` (its `match`) apply to the byte looked up in the row's
table; `exclude` lists the fields (their low bit) whose value 6 or 3 belongs to another row (30_encoding.md R127). -/
structure OpRow where
  mnemonic : String
  mask : Byte
  pattern : Byte
  exclude : List (Nat × Nat × Nat)
deriving DecidableEq, Repr

/-- A row matches `b` when (b & mask) = match and no field has an excluded value (30_encoding.md R119). An
exclusion is (low bit, width, value). -/
def OpRow.fits (r : OpRow) (b : Byte) : Bool :=
  (b &&& r.mask) == r.pattern && r.exclude.all (fun x => b.toNat / 2 ^ x.1 % 2 ^ x.2.1 != x.2.2)

/-- Rows of the primary table (30_encoding.md R127), part 0. -/
def primaryRowsPart0 : List OpRow :=
  [
   ⟨"NOP", 0xFF#8, 0x00#8, []⟩,
   ⟨"JR_e", 0xFF#8, 0x08#8, []⟩,
   ⟨"DI", 0xFF#8, 0x10#8, []⟩,
   ⟨"EI", 0xFF#8, 0x18#8, []⟩,
   ⟨"SCF", 0xFF#8, 0x20#8, []⟩,
   ⟨"CCF", 0xFF#8, 0x28#8, []⟩,
   ⟨"CPL", 0xFF#8, 0x30#8, []⟩,
   ⟨"SWI", 0xFF#8, 0x38#8, []⟩,
   ⟨"LD_pp_nn", 0xCF#8, 0x01#8, []⟩,
   ⟨"ADD_HL_pp", 0xCF#8, 0x09#8, []⟩,
   ⟨"LD__BC__A", 0xFF#8, 0x02#8, []⟩,
   ⟨"LD_A__BC", 0xFF#8, 0x0A#8, []⟩,
   ⟨"LD__DE__A", 0xFF#8, 0x12#8, []⟩,
   ⟨"LD_A__DE", 0xFF#8, 0x1A#8, []⟩,
   ⟨"LD__nn__A", 0xFF#8, 0x22#8, []⟩,
   ⟨"LD_A__nn", 0xFF#8, 0x2A#8, []⟩,
   ⟨"LD__HL+d__A", 0xFF#8, 0x32#8, []⟩,
   ⟨"LD_A__HL+d", 0xFF#8, 0x3A#8, []⟩,
   ⟨"INC_pp", 0xCF#8, 0x03#8, []⟩,
   ⟨"DEC_pp", 0xCF#8, 0x0B#8, []⟩]

/-- Rows of the primary table (30_encoding.md R127), part 1. -/
def primaryRowsPart1 : List OpRow :=
  [
   ⟨"INC_r", 0xC7#8, 0x04#8, [(3, 3, 6)]⟩,
   ⟨"INC__HL", 0xFF#8, 0x34#8, []⟩,
   ⟨"DEC_r", 0xC7#8, 0x05#8, [(3, 3, 6)]⟩,
   ⟨"DEC__HL", 0xFF#8, 0x35#8, []⟩,
   ⟨"LD_r_n", 0xC7#8, 0x06#8, [(3, 3, 6)]⟩,
   ⟨"LD__HL__n", 0xFF#8, 0x36#8, []⟩,
   ⟨"JR_cc_e", 0xC7#8, 0x07#8, []⟩,
   ⟨"LD_r_r", 0xC0#8, 0x40#8, [(3, 3, 6), (0, 3, 6)]⟩,
   ⟨"LD_r__HL", 0xC7#8, 0x46#8, [(3, 3, 6)]⟩,
   ⟨"LD__HL__r", 0xF8#8, 0x70#8, [(0, 3, 6)]⟩,
   ⟨"HALT", 0xFF#8, 0x76#8, []⟩,
   ⟨"ADD_A_r", 0xF8#8, 0x80#8, [(0, 3, 6)]⟩,
   ⟨"ADD_A__HL", 0xFF#8, 0x86#8, []⟩,
   ⟨"ADD_A_n", 0xFF#8, 0xC6#8, []⟩,
   ⟨"ADC_A_r", 0xF8#8, 0x88#8, [(0, 3, 6)]⟩,
   ⟨"ADC_A__HL", 0xFF#8, 0x8E#8, []⟩,
   ⟨"ADC_A_n", 0xFF#8, 0xCE#8, []⟩,
   ⟨"SUB_A_r", 0xF8#8, 0x90#8, [(0, 3, 6)]⟩,
   ⟨"SUB_A__HL", 0xFF#8, 0x96#8, []⟩,
   ⟨"SUB_A_n", 0xFF#8, 0xD6#8, []⟩]

/-- Rows of the primary table (30_encoding.md R127), part 2. -/
def primaryRowsPart2 : List OpRow :=
  [
   ⟨"SBC_A_r", 0xF8#8, 0x98#8, [(0, 3, 6)]⟩,
   ⟨"SBC_A__HL", 0xFF#8, 0x9E#8, []⟩,
   ⟨"SBC_A_n", 0xFF#8, 0xDE#8, []⟩,
   ⟨"AND_A_r", 0xF8#8, 0xA0#8, [(0, 3, 6)]⟩,
   ⟨"AND_A__HL", 0xFF#8, 0xA6#8, []⟩,
   ⟨"AND_A_n", 0xFF#8, 0xE6#8, []⟩,
   ⟨"XOR_A_r", 0xF8#8, 0xA8#8, [(0, 3, 6)]⟩,
   ⟨"XOR_A__HL", 0xFF#8, 0xAE#8, []⟩,
   ⟨"XOR_A_n", 0xFF#8, 0xEE#8, []⟩,
   ⟨"OR_A_r", 0xF8#8, 0xB0#8, [(0, 3, 6)]⟩,
   ⟨"OR_A__HL", 0xFF#8, 0xB6#8, []⟩,
   ⟨"OR_A_n", 0xFF#8, 0xF6#8, []⟩,
   ⟨"CP_A_r", 0xF8#8, 0xB8#8, [(0, 3, 6)]⟩,
   ⟨"CP_A__HL", 0xFF#8, 0xBE#8, []⟩,
   ⟨"CP_A_n", 0xFF#8, 0xFE#8, []⟩,
   ⟨"RET_cc", 0xC7#8, 0xC0#8, []⟩,
   ⟨"POP_qq", 0xCF#8, 0xC1#8, [(4, 2, 3)]⟩,
   ⟨"POP_AF", 0xFF#8, 0xF1#8, []⟩,
   ⟨"RET", 0xFF#8, 0xC9#8, []⟩,
   ⟨"RETI", 0xFF#8, 0xD9#8, []⟩]

/-- Rows of the primary table (30_encoding.md R127), part 3. -/
def primaryRowsPart3 : List OpRow :=
  [
   ⟨"JP__HL", 0xFF#8, 0xE9#8, []⟩,
   ⟨"LD_SP_HL", 0xFF#8, 0xF9#8, []⟩,
   ⟨"JP_cc_nn", 0xC7#8, 0xC2#8, []⟩,
   ⟨"JP_nn", 0xFF#8, 0xC3#8, []⟩,
   ⟨"PREFIX", 0xFF#8, 0xCB#8, []⟩,
   ⟨"UND.ALIAS_0xD3", 0xFF#8, 0xD3#8, []⟩,
   ⟨"UND.ALIAS_0xDB", 0xFF#8, 0xDB#8, []⟩,
   ⟨"UND.ALIAS_0xE3", 0xFF#8, 0xE3#8, []⟩,
   ⟨"UND.ALIAS_0xEB", 0xFF#8, 0xEB#8, []⟩,
   ⟨"LD_F_A", 0xFF#8, 0xF3#8, []⟩,
   ⟨"LD_A_F", 0xFF#8, 0xFB#8, []⟩,
   ⟨"CALL_cc_nn", 0xC7#8, 0xC4#8, []⟩,
   ⟨"PUSH_qq", 0xCF#8, 0xC5#8, [(4, 2, 3)]⟩,
   ⟨"PUSH_AF", 0xFF#8, 0xF5#8, []⟩,
   ⟨"CALL_nn", 0xFF#8, 0xCD#8, []⟩,
   ⟨"UND.LOCK_0xDD", 0xFF#8, 0xDD#8, []⟩,
   ⟨"UND.LOCK_0xED", 0xFF#8, 0xED#8, []⟩,
   ⟨"UND.LOCK_0xFD", 0xFF#8, 0xFD#8, []⟩,
   ⟨"UND.TRAP_t", 0xC7#8, 0xC7#8, []⟩]

/-- The 79 primary rows (30_encoding.md R127). -/
def primaryRows : List OpRow := primaryRowsPart0 ++ primaryRowsPart1 ++ primaryRowsPart2 ++ primaryRowsPart3

/-- Rows of the prefixed table (30_encoding.md R127), part 0. -/
def prefixedRowsPart0 : List OpRow :=
  [
   ⟨"RLC_r", 0xF8#8, 0x00#8, [(0, 3, 6)]⟩,
   ⟨"RLC__HL", 0xFF#8, 0x06#8, []⟩,
   ⟨"RRC_r", 0xF8#8, 0x08#8, [(0, 3, 6)]⟩,
   ⟨"RRC__HL", 0xFF#8, 0x0E#8, []⟩,
   ⟨"RL_r", 0xF8#8, 0x10#8, [(0, 3, 6)]⟩,
   ⟨"RL__HL", 0xFF#8, 0x16#8, []⟩,
   ⟨"RR_r", 0xF8#8, 0x18#8, [(0, 3, 6)]⟩,
   ⟨"RR__HL", 0xFF#8, 0x1E#8, []⟩,
   ⟨"SLA_r", 0xF8#8, 0x20#8, [(0, 3, 6)]⟩,
   ⟨"SLA__HL", 0xFF#8, 0x26#8, []⟩,
   ⟨"SRA_r", 0xF8#8, 0x28#8, [(0, 3, 6)]⟩,
   ⟨"SRA__HL", 0xFF#8, 0x2E#8, []⟩,
   ⟨"SWAP_r", 0xF8#8, 0x30#8, [(0, 3, 6)]⟩,
   ⟨"SWAP__HL", 0xFF#8, 0x36#8, []⟩,
   ⟨"SRL_r", 0xF8#8, 0x38#8, [(0, 3, 6)]⟩,
   ⟨"SRL__HL", 0xFF#8, 0x3E#8, []⟩,
   ⟨"BIT_b_r", 0xC0#8, 0x40#8, [(0, 3, 6)]⟩,
   ⟨"BIT_b__HL", 0xC7#8, 0x46#8, []⟩,
   ⟨"RES_b_r", 0xC0#8, 0x80#8, [(0, 3, 6)]⟩,
   ⟨"RES_b__HL", 0xC7#8, 0x86#8, []⟩]

/-- Rows of the prefixed table (30_encoding.md R127), part 1. -/
def prefixedRowsPart1 : List OpRow :=
  [
   ⟨"SET_b_r", 0xC0#8, 0xC0#8, [(0, 3, 6)]⟩,
   ⟨"SET_b__HL", 0xC7#8, 0xC6#8, []⟩]

/-- The 22 prefixed rows (30_encoding.md R127). -/
def prefixedRows : List OpRow := prefixedRowsPart0 ++ prefixedRowsPart1


/-- The mnemonic of an instruction's row, the diagnostic lookup of 60_exceptions.md R451; no rule uses it. -/
def Instr.mnemonic : Instr → String
  | .nop => "NOP"
  | .jr _ => "JR_e"
  | .di => "DI"
  | .ei => "EI"
  | .scf => "SCF"
  | .ccf => "CCF"
  | .cpl => "CPL"
  | .swi => "SWI"
  | .ldPpNn _ _ => "LD_pp_nn"
  | .addHlPp _ => "ADD_HL_pp"
  | .ldBcA => "LD__BC__A"
  | .ldABc => "LD_A__BC"
  | .ldDeA => "LD__DE__A"
  | .ldADe => "LD_A__DE"
  | .ldNnA _ => "LD__nn__A"
  | .ldANn _ => "LD_A__nn"
  | .ldHldA _ => "LD__HL+d__A"
  | .ldAHld _ => "LD_A__HL+d"
  | .incPp _ => "INC_pp"
  | .decPp _ => "DEC_pp"
  | .incR _ => "INC_r"
  | .incM => "INC__HL"
  | .decR _ => "DEC_r"
  | .decM => "DEC__HL"
  | .ldRN _ _ => "LD_r_n"
  | .ldMN _ => "LD__HL__n"
  | .jrCc _ _ => "JR_cc_e"
  | .ldRR _ _ => "LD_r_r"
  | .ldRM _ => "LD_r__HL"
  | .ldMR _ => "LD__HL__r"
  | .halt => "HALT"
  | .addAR _ => "ADD_A_r"
  | .addAM => "ADD_A__HL"
  | .addAN _ => "ADD_A_n"
  | .adcAR _ => "ADC_A_r"
  | .adcAM => "ADC_A__HL"
  | .adcAN _ => "ADC_A_n"
  | .subAR _ => "SUB_A_r"
  | .subAM => "SUB_A__HL"
  | .subAN _ => "SUB_A_n"
  | .sbcAR _ => "SBC_A_r"
  | .sbcAM => "SBC_A__HL"
  | .sbcAN _ => "SBC_A_n"
  | .andAR _ => "AND_A_r"
  | .andAM => "AND_A__HL"
  | .andAN _ => "AND_A_n"
  | .xorAR _ => "XOR_A_r"
  | .xorAM => "XOR_A__HL"
  | .xorAN _ => "XOR_A_n"
  | .orAR _ => "OR_A_r"
  | .orAM => "OR_A__HL"
  | .orAN _ => "OR_A_n"
  | .cpAR _ => "CP_A_r"
  | .cpAM => "CP_A__HL"
  | .cpAN _ => "CP_A_n"
  | .retCc _ => "RET_cc"
  | .popQq _ => "POP_qq"
  | .popAf => "POP_AF"
  | .ret => "RET"
  | .reti => "RETI"
  | .jpHl => "JP__HL"
  | .ldSpHl => "LD_SP_HL"
  | .jpCc _ _ => "JP_cc_nn"
  | .jp _ => "JP_nn"
  | .prefixByte => "PREFIX"
  | .undAliasD3 => "UND.ALIAS_0xD3"
  | .undAliasDB => "UND.ALIAS_0xDB"
  | .undAliasE3 => "UND.ALIAS_0xE3"
  | .undAliasEB => "UND.ALIAS_0xEB"
  | .ldFA => "LD_F_A"
  | .ldAF => "LD_A_F"
  | .callCc _ _ => "CALL_cc_nn"
  | .pushQq _ => "PUSH_qq"
  | .pushAf => "PUSH_AF"
  | .call _ => "CALL_nn"
  | .undLockDD => "UND.LOCK_0xDD"
  | .undLockED => "UND.LOCK_0xED"
  | .undLockFD => "UND.LOCK_0xFD"
  | .undTrap _ => "UND.TRAP_t"
  | .rlcR _ => "RLC_r"
  | .rlcM => "RLC__HL"
  | .rrcR _ => "RRC_r"
  | .rrcM => "RRC__HL"
  | .rlR _ => "RL_r"
  | .rlM => "RL__HL"
  | .rrR _ => "RR_r"
  | .rrM => "RR__HL"
  | .slaR _ => "SLA_r"
  | .slaM => "SLA__HL"
  | .sraR _ => "SRA_r"
  | .sraM => "SRA__HL"
  | .swapR _ => "SWAP_r"
  | .swapM => "SWAP__HL"
  | .srlR _ => "SRL_r"
  | .srlM => "SRL__HL"
  | .bitR _ _ => "BIT_b_r"
  | .bitM _ => "BIT_b__HL"
  | .resR _ _ => "RES_b_r"
  | .resM _ => "RES_b__HL"
  | .setR _ _ => "SET_b_r"
  | .setM _ => "SET_b__HL"

end Sys2Proof
end

