-- ==== Sys2Proof/Machine/State.lean ====
section
/-! DEFINITION. The state of CORE-8 as plain data (10_state.md R20), what stands on the far side of its bus
(20_memory.md R61, R66, R70), the log of bus cycles it performed, and the state after reset
(70_reset_and_hazards.md R470). -/

namespace Sys2Proof.Machine

/-- The three values of `mode` (10_state.md R50). -/
inductive Mode where
  /-- No sequence is in progress. -/
  | boundary
  /-- An instruction is in progress: its c0 has been performed. -/
  | exec
  /-- The interrupt service sequence is in progress. -/
  | service
deriving DecidableEq, Repr

/-- The seven general registers (10_state.md R30). -/
structure Regs where
  a : Byte
  b : Byte
  c : Byte
  d : Byte
  e : Byte
  h : Byte
  l : Byte
deriving DecidableEq, Repr

/-- The five condition flags (10_state.md R44). -/
structure Flags where
  sf : Bool
  zf : Bool
  hf : Bool
  vf : Bool
  cf : Bool
deriving DecidableEq, Repr

/-- The per-instruction sequencer state: mode, cycle index, opcode latch, prefix marker and the two byte latches
(10_state.md R50, R52, R53, R54). -/
structure Sequencer where
  mode : Mode
  step : BitVec 3
  ir : Byte
  pfx : Bool
  z : Byte
  w : Byte
deriving DecidableEq, Repr

/-- The sequencer at a boundary, as completion and reset leave it (40_sequencer.md R175, 10_state.md R59 (a)). -/
def Sequencer.rest : Sequencer :=
  { mode := .boundary, step := 0#3, ir := 0x00#8, pfx := false, z := 0x00#8, w := 0x00#8 }

/-- The byte a READ cycle returns at each of the 2^16 addresses (20_memory.md R70): the listed cells, and `filler`
(OPEN_BUS_FILLER, a parameter of the platform, 20_memory.md R66; log 4) at every address that is not listed. -/
structure Memory where
  filler : Byte
  cells : List Host.Cell
deriving DecidableEq, Repr

/-- One tick's sampled inputs (20_memory.md R61, R62): RESET and HALT_LINE at its start, IRQ_PENDING, IE and IF at
its end; and the bytes that other agents wrote since the tick before (20_memory.md R94; log 3). -/
structure TickIn where
  reset : Bool
  haltLine : Bool
  irqPending : Bool
  ie : Byte
  irqFlags : Byte
  others : List (Word × Byte)
deriving DecidableEq, Repr

/-- Every line 0 and no other agent's write: the sample when `inputs` is used up (log 2). -/
def TickIn.quiet : TickIn :=
  { reset := false, haltLine := false, irqPending := false, ie := 0x00#8, irqFlags := 0x00#8, others := [] }

/-- One tick's bus cycle as the platform sees it (20_memory.md R61). An IDLE cycle carries no address and no datum
(R63); IACK is given with an idle cycle only, so its source is an optional value there (R65, 93 U7). -/
inductive BusCycle where
  | read (addr : Word) (din : Byte)
  | write (addr : Word) (dout : Byte)
  | idle (iack : Option (BitVec 3))
deriving DecidableEq, Repr

/-- The state. `regs` to `irqDetected` are exactly the items of 10_state.md R20; `mem` is the bus side, `inputs`
the samples of the ticks to come, first tick first, and `log` the bus cycles performed, newest first (logs 2, 3, 5). -/
structure State where
  regs : Regs
  flags : Flags
  pc : Word
  sp : Word
  ime : Bool
  seq : Sequencer
  halted : Bool
  locked : Bool
  eiPending : Bool
  haltBug : Bool
  irqDetected : Bool
  mem : Memory
  inputs : List TickIn
  log : List BusCycle
deriving DecidableEq, Repr

/-- The core has no fault of any kind (60_exceptions.md R400), so there is none to name: nothing raises one, and
that is neither safe nor unsafe but the rule itself. -/
inductive Fault where
deriving DecidableEq, Repr

/-- Why a step has no next state. -/
inductive Refusal where
  /-- Raised by an arm of `exec` for an instruction without a meaning; no arm does. Safe. -/
  | notModelled (mnemonic : String)
  /-- Raised by `tick` and `step` for a state with `mode` Exec or Service whose `step` names no cycle of the sequence
  in progress: no reset-reachable state (10_state.md R59; 93_implementation_defined.md U9 refuses it). Safe (log 9). -/
  | noSuchCycle
deriving DecidableEq, Repr

/-- The machine right after reset (70_reset_and_hazards.md R470, R471): every item of 10_state.md R20 at the value the
rule gives, nothing listed in memory, no sample waiting and no cycle performed (logs 2, 4, 5, 6). -/
def State.reset : State :=
  { regs := { a := 0x00#8, b := 0x00#8, c := 0x00#8, d := 0x00#8, e := 0x00#8, h := 0x00#8, l := 0x00#8 }
    flags := { sf := false, zf := false, hf := false, vf := false, cf := false }
    pc := Config.vecReset
    sp := 0x0000#16
    ime := false
    seq := Sequencer.rest
    halted := false
    locked := false
    eiPending := false
    haltBug := false
    irqDetected := false
    mem := { filler := 0x00#8, cells := [] }
    inputs := []
    log := [] }

end Sys2Proof.Machine
end

