-- ==== Sys2Proof/Machine/Flags.lean ====
section
/-! DEFINITION. Every flag computation of the spec: packing (10_state.md R46, R47), the adder and the subtractor
(42_alu8.md R231, R232), logic (R233), increment and decrement (R242, R244), the 16-bit adder (44_arith16.md R292),
rotates and shifts (47_prefixed.md R361 to R368) and the conditions (45_control.md R300). -/

namespace Sys2Proof.Machine

/-- A flag bit placed at bit `n` of a byte (10_state.md R46). -/
def flagBit (f : Bool) (n : Nat) : Byte := (if f then 1#8 else 0#8) <<< n

/-- `pack()` (10_state.md R46). -/
def pack (f : Flags) : Byte :=
  flagBit f.sf 7 ||| flagBit f.zf 6 ||| Config.flagOnes ||| flagBit f.hf 4 ||| flagBit f.vf 2 ||| flagBit f.cf 0

/-- `unpack(b)`: bits 5, 3 and 1 are ignored (10_state.md R47). -/
def unpack (b : Byte) : Flags :=
  { sf := b.getLsbD 7, zf := b.getLsbD 6, hf := b.getLsbD 4, vf := b.getLsbD 2, cf := b.getLsbD 0 }

/-- `add8(a, v, cin)`: the sum and its flags, all sums in unbounded integers (42_alu8.md R231). -/
def add8 (a v : Byte) (cin : Bool) : Byte × Flags :=
  let s := a.toNat + v.toNat + cin.toNat
  let r := BitVec.ofNat 8 s
  let cf := decide (255 < s)
  let hf := decide (15 < a.toNat % 16 + v.toNat % 16 + cin.toNat)
  let c6 := decide (127 < a.toNat % 128 + v.toNat % 128 + cin.toNat)
  (r, { sf := r.getLsbD 7, zf := r == 0#8, hf := hf, vf := c6 != cf, cf := cf })

/-- `sub8(a, v, bin)`: the difference and its flags, all differences in unbounded integers (42_alu8.md R232). -/
def sub8 (a v : Byte) (bin : Bool) : Byte × Flags :=
  let s : Int := (a.toNat : Int) - v.toNat - bin.toNat
  let r := BitVec.ofInt 8 s
  let cf := decide (s < 0)
  let hf := decide (((a.toNat % 16 : Nat) : Int) - (v.toNat % 16 : Nat) - bin.toNat < 0)
  let b6 := decide (((a.toNat % 128 : Nat) : Int) - (v.toNat % 128 : Nat) - bin.toNat < 0)
  (r, { sf := r.getLsbD 7, zf := r == 0#8, hf := hf, vf := b6 != cf, cf := cf })

/-- The flags of a logical result (42_alu8.md R233). -/
def logicFlags (r : Byte) : Flags :=
  { sf := r.getLsbD 7, zf := r == 0#8, hf := false, vf := false, cf := false }

/-- The eight two-operand operations (30_encoding.md R116). -/
inductive AluOp where
  | add | adc | sub | sbc | and | xor | or | cp
deriving DecidableEq, Repr

/-- The value written to A and the flags of `op` on A = `a` and `v`, with the old carry `cf`. CP keeps A
(42_alu8.md R234 to R241). -/
def aluResult (op : AluOp) (a v : Byte) (cf : Bool) : Byte × Flags :=
  match op with
  | .add => add8 a v false
  | .adc => add8 a v cf
  | .sub => sub8 a v false
  | .sbc => sub8 a v cf
  | .and => (a &&& v, logicFlags (a &&& v))
  | .xor => (a ^^^ v, logicFlags (a ^^^ v))
  | .or => (a ||| v, logicFlags (a ||| v))
  | .cp => (a, (sub8 a v false).2)

/-- INC of a byte: CF is not written (42_alu8.md R242). -/
def inc8 (v : Byte) (f : Flags) : Byte × Flags :=
  let r := v + 1#8
  (r, { sf := r.getLsbD 7, zf := r == 0#8, hf := v.toNat % 16 == 15, vf := v == 0x7F#8, cf := f.cf })

/-- DEC of a byte: CF is not written (42_alu8.md R244). -/
def dec8 (v : Byte) (f : Flags) : Byte × Flags :=
  let r := v - 1#8
  (r, { sf := r.getLsbD 7, zf := r == 0#8, hf := v.toNat % 16 == 0, vf := v == 0x80#8, cf := f.cf })

/-- ADD HL,pp: the 16-bit sum, HF the carry out of bit 11, CF the carry out of bit 15; SF, ZF, VF keep their values
(44_arith16.md R292). -/
def add16 (a b : Word) (f : Flags) : Word × Flags :=
  let s := a.toNat + b.toNat
  (BitVec.ofNat 16 s,
    { f with hf := decide (0x0FFF < a.toNat % 0x1000 + b.toNat % 0x1000), cf := decide (0xFFFF < s) })

/-- The eight rotate and shift operations (30_encoding.md R116). -/
inductive ShiftOp where
  | rlc | rrc | rl | rr | sla | sra | swap | srl
deriving DecidableEq, Repr

/-- The result byte and the new CF of a rotate or shift, from the byte and the old CF (47_prefixed.md R361 to R368). -/
def shiftValue (op : ShiftOp) (v : Byte) (cf : Bool) : Byte × Bool :=
  match op with
  | .rlc => ((v <<< 1) ||| flagBit (v.getLsbD 7) 0, v.getLsbD 7)
  | .rrc => ((v >>> 1) ||| flagBit (v.getLsbD 0) 7, v.getLsbD 0)
  | .rl => ((v <<< 1) ||| flagBit cf 0, v.getLsbD 7)
  | .rr => ((v >>> 1) ||| flagBit cf 7, v.getLsbD 0)
  | .sla => (v <<< 1, v.getLsbD 7)
  | .sra => ((v >>> 1) ||| (v &&& 0x80#8), v.getLsbD 0)
  | .swap => ((v <<< 4) ||| (v >>> 4), false)
  | .srl => (v >>> 1, v.getLsbD 0)

/-- The result byte and all five flags of a rotate or shift (47_prefixed.md, before R361). -/
def shiftResult (op : ShiftOp) (v : Byte) (cf : Bool) : Byte × Flags :=
  let r := shiftValue op v cf
  (r.1, { logicFlags r.1 with cf := r.2 })

/-- The bit `1 << b` of RES and SET (47_prefixed.md R370, R371). -/
def bitMask (b : Oct) : Byte := 1#8 <<< b.number

/-- BIT b: ZF <- (v[b] = 0), the other flags keep their values (47_prefixed.md R369). -/
def bitFlags (b : Oct) (v : Byte) (f : Flags) : Flags := { f with zf := !v.getLsbD b.number }

/-- RES b: v & ~(1 << b) (47_prefixed.md R370). -/
def clearBit (b : Oct) (v : Byte) : Byte := v &&& ~~~(bitMask b)

/-- SET b: v | (1 << b) (47_prefixed.md R371). -/
def setBit (b : Oct) (v : Byte) : Byte := v ||| bitMask b

/-- `cond(c)`, for c = `cc` (45_control.md R300, 30_encoding.md R115). -/
def condHolds (cc : Cond) (f : Flags) : Bool :=
  match cc with
  | .nz => !f.zf
  | .z => f.zf
  | .nc => !f.cf
  | .c => f.cf
  | .nv => !f.vf
  | .v => f.vf
  | .p => !f.sf
  | .m => f.sf

end Sys2Proof.Machine
end

