-- ==== Sys2Proof/Machine/Ops.lean ====
section
/-! DEFINITION. The operations every meaning is built from: memory, registers and pairs, the samples of a tick, one
bus cycle, one cycle of a cycle table, completion and the poll point, a whole sequence; then taking a trap, servicing
an interrupt, and returning. -/

namespace Sys2Proof.Machine

/-! ### Memory, the far side of the bus (20_memory.md R66, R70) -/

/-- The byte at address `k`: the listed one, or what an unlisted address reads as (`filler`, log 4). -/
def Memory.lookup (filler : Byte) : List Host.Cell → Nat → Byte
  | [], _ => filler
  | (j, v) :: rest, k => if j = k then v else Memory.lookup filler rest k

/-- The cells after `v` is stored at address `k`: kept sorted, and with no entry equal to `filler`. -/
def Memory.store (filler : Byte) (k : Nat) (v : Byte) : List Host.Cell → List Host.Cell
  | [] => if v = filler then [] else [(k, v)]
  | (j, u) :: rest =>
    if k < j then if v = filler then (j, u) :: rest else (k, v) :: (j, u) :: rest
    else if k = j then if v = filler then rest else (k, v) :: rest
    else (j, u) :: Memory.store filler k v rest

/-- What a READ cycle at `a` returns (20_memory.md R64: always a byte). -/
def Memory.read (m : Memory) (a : Word) : Byte := Memory.lookup m.filler m.cells a.toNat

/-- What a WRITE cycle of `v` at `a` leaves (20_memory.md R64: always accepted). -/
def Memory.write (m : Memory) (a : Word) (v : Byte) : Memory :=
  { m with cells := Memory.store m.filler a.toNat v m.cells }

/-- Several bytes written one after the other. -/
def Memory.writeAll (m : Memory) : List (Word × Byte) → Memory
  | [] => m
  | (a, v) :: rest => (m.write a v).writeAll rest

/-- Addresses strictly rising from `lo` on, all below 2^16, and no cell equal to `filler`. -/
def Memory.sorted (filler : Byte) (lo : Nat) : List Host.Cell → Bool
  | [] => true
  | (k, v) :: rest => decide (lo ≤ k) && decide (k < 65536) && (v != filler) && Memory.sorted filler (k + 1) rest

/-- The canonical form: equal memories are equal data. -/
def Memory.wf (m : Memory) : Bool := Memory.sorted m.filler 0 m.cells

/-! ### Registers and pairs (10_state.md R30 to R36) -/

/-- `x[code]` as a value (00_scope.md R8, 30_encoding.md R113). -/
def State.readReg (s : State) (r : Reg) : Byte :=
  match r with
  | .a => s.regs.a
  | .b => s.regs.b
  | .c => s.regs.c
  | .d => s.regs.d
  | .e => s.regs.e
  | .h => s.regs.h
  | .l => s.regs.l

/-- `x[code] <- v` (00_scope.md R8). -/
def State.writeReg (s : State) (r : Reg) (v : Byte) : State :=
  match r with
  | .a => { s with regs := { s.regs with a := v } }
  | .b => { s with regs := { s.regs with b := v } }
  | .c => { s with regs := { s.regs with c := v } }
  | .d => { s with regs := { s.regs with d := v } }
  | .e => { s with regs := { s.regs with e := v } }
  | .h => { s with regs := { s.regs with h := v } }
  | .l => { s with regs := { s.regs with l := v } }

/-- `pp[code]`: BC = B:C, DE = D:E, HL = H:L, and the register SP (10_state.md R33, R36). -/
def State.readPair (s : State) (p : Pair) : Word :=
  match p with
  | .bc => joinBytes s.regs.b s.regs.c
  | .de => joinBytes s.regs.d s.regs.e
  | .hl => joinBytes s.regs.h s.regs.l
  | .sp => s.sp

/-- `pp[code] <- v`: both halves at once (10_state.md R34). -/
def State.writePair (s : State) (p : Pair) (v : Word) : State :=
  match p with
  | .bc => { s with regs := { s.regs with b := hiByte v, c := loByte v } }
  | .de => { s with regs := { s.regs with d := hiByte v, e := loByte v } }
  | .hl => { s with regs := { s.regs with h := hiByte v, l := loByte v } }
  | .sp => { s with sp := v }

/-- The pair view HL. -/
def State.hl (s : State) : Word := s.readPair .hl

/-- Reading AF: A high, the flag byte low (10_state.md R35). -/
def State.readAF (s : State) : Word := joinBytes s.regs.a (pack s.flags)

/-- Writing AF: A <- hi(v), unpack(lo(v)) (10_state.md R35). -/
def State.writeAF (s : State) (v : Word) : State :=
  { s with regs := { s.regs with a := hiByte v }, flags := unpack (loByte v) }

/-! ### Single fields, each written in one place -/

/-- A <- v. -/
def State.setA (s : State) (v : Byte) : State := s.writeReg .a v

/-- All five flags. -/
def State.setFlags (s : State) (f : Flags) : State := { s with flags := f }

/-- PC <- v (00_scope.md R10). -/
def State.setPC (s : State) (v : Word) : State := { s with pc := v }

/-- SP <- v. -/
def State.setSP (s : State) (v : Word) : State := { s with sp := v }

/-- IME <- v (10_state.md R49). -/
def State.setIME (s : State) (v : Bool) : State := { s with ime := v }

/-- The latch z (10_state.md R54). -/
def State.setZ (s : State) (v : Byte) : State := { s with seq := { s.seq with z := v } }

/-- The latch w (10_state.md R54). -/
def State.setW (s : State) (v : Byte) : State := { s with seq := { s.seq with w := v } }

/-- `w:z`. -/
def State.wz (s : State) : Word := joinBytes s.seq.w s.seq.z

/-- Adds one bus cycle to the log (log 5). -/
def State.record (s : State) (c : BusCycle) : State := { s with log := c :: s.log }

/-- The memory field. -/
def State.setMem (s : State) (m : Memory) : State := { s with mem := m }

/-! ### The samples of a tick (20_memory.md R62, R94) -/

/-- This tick's sample (log 2). -/
def State.input (s : State) : TickIn := s.inputs.headD TickIn.quiet

/-- What other agents wrote since the tick before reaches the bus side before this tick's cycle (20_memory.md R94). -/
def State.beginTick (s : State) : State := s.setMem (s.mem.writeAll s.input.others)

/-- The tick is over: its sample is used up (20_memory.md R68: nothing of the bus is remembered). -/
def State.popInput (s : State) : State := { s with inputs := s.inputs.tail }

/-- The bus side as the next tick's cycle will find it. -/
def State.busRead (s : State) (a : Word) : Byte := s.beginTick.mem.read a

/-! ### Interrupt selection (60_exceptions.md R417) -/

/-- The least i with p[i] = 1: source 0 has the highest priority. -/
def leastSource (p : Byte) : Option (BitVec 3) :=
  ((List.range 8).find? (fun i => p.getLsbD i)).map (BitVec.ofNat 3)

/-- The source selected from one tick's samples of IE and IF (60_exceptions.md R417, R423). -/
def TickIn.selected (inp : TickIn) : Option (BitVec 3) := leastSource (inp.ie &&& inp.irqFlags)

/-! ### One bus cycle (00_scope.md R9) -/

/-- The bus operation of one cycle of a cycle table (00_scope.md R9). -/
inductive BusOp where
  /-- c0: `ir <- MemRead(PC, 1)`, with the halt glitch (40_sequencer.md R170). -/
  | opcode
  /-- `Fetch()` of a later byte; it always increments PC (40_sequencer.md R170). -/
  | fetch
  /-- `MemRead(addr, 1)`. -/
  | read (addr : State → Word)
  /-- `MemWrite(addr, 1, v)`. -/
  | write (addr : State → Word) (v : State → Byte)
  /-- `Push(v)`: SP <- SP - 1, then the write at SP. -/
  | push (v : State → Byte)
  /-- `Pop()`: the read at SP, then SP <- SP + 1. -/
  | pop
  /-- `Idle()`. -/
  | idle
  /-- `Idle()` in which IACK is asserted when a source is selected: c4 of the service sequence (20_memory.md R65). -/
  | idleAck

/-- Does the cycle read the next instruction byte? -/
def BusOp.takesByte : BusOp → Bool
  | .opcode => true
  | .fetch => true
  | _ => false

/-- A READ cycle that returned `v` (20_memory.md R61). -/
def State.sawRead (s : State) (a : Word) (v : Byte) : State := s.record (.read a v)

/-- A WRITE cycle (20_memory.md R61). -/
def State.busWrite (s : State) (a : Word) (v : Byte) : State :=
  (s.setMem (s.mem.write a v)).record (.write a v)

/-- PC after c0: one further, unless the halt glitch is consumed by this fetch (40_sequencer.md R170). -/
def State.opcodePC (s : State) : Word := if s.haltBug then s.pc else s.pc + 1#16

/-- What c0 does with the opcode byte: `ir` latches it, PC moves on unless the glitch is consumed
(40_sequencer.md R170). -/
def State.latchOpcode (s : State) (b : Byte) : State :=
  { s with seq := { s.seq with ir := b }, pc := s.opcodePC, haltBug := false }

/-- Performs the bus operation of a cycle and gives DIN (0 where nothing is read). For a cycle that reads an
instruction byte, `given` is that byte where the caller has it already (log 8), else the bus is read at PC. -/
def BusOp.perform (op : BusOp) (inp : TickIn) (given : Option Byte) (s : State) : State × Byte :=
  match op with
  | .opcode =>
    let b := given.getD (s.mem.read s.pc)
    ((s.sawRead s.pc b).latchOpcode b, b)
  | .fetch =>
    let b := given.getD (s.mem.read s.pc)
    ((s.sawRead s.pc b).setPC (s.pc + 1#16), b)
  | .read addr =>
    let b := s.mem.read (addr s)
    (s.sawRead (addr s) b, b)
  | .write addr v => (s.busWrite (addr s) (v s), 0#8)
  | .push v => ((s.setSP (s.sp - 1#16)).busWrite (s.sp - 1#16) (v s), 0#8)
  | .pop =>
    let b := s.mem.read s.sp
    ((s.sawRead s.sp b).setSP (s.sp + 1#16), b)
  | .idle => (s.record (.idle none), 0#8)
  | .idleAck => (s.record (.idle inp.selected), 0#8)

/-! ### One cycle of a cycle table (00_scope.md R11) -/

/-- One cycle: the bus operation, the state updates written after it (from the tick's sample and DIN), and the
condition under which the sequence completes here although the table goes on. -/
structure Cycle where
  op : BusOp
  act : TickIn → Byte → State → State
  stops : State → Bool

/-- The poll point (40_sequencer.md R176). -/
def State.poll (s : State) (inp : TickIn) : State :=
  { s with
    irqDetected := s.irqDetected || (s.ime && inp.irqPending)
    ime := s.ime || s.eiPending
    eiPending := false }

/-- Completion (40_sequencer.md R175): the sequencer's own items are cleared; the poll point follows an instruction
that has not locked the core, and never the service sequence. -/
def State.complete (s : State) (inp : TickIn) : State :=
  if s.seq.mode = .exec ∧ s.locked = false then ({ s with seq := Sequencer.rest } : State).poll inp
  else { s with seq := Sequencer.rest }

/-- `step <- step + 1` (40_sequencer.md R172). -/
def State.advance (s : State) : State := { s with seq := { s.seq with step := s.seq.step + 1#3 } }

/-- The bus cycle and the actions of cycle `c`, without what ends the tick. -/
def Cycle.run (c : Cycle) (given : Option Byte) (s : State) : State :=
  let r := c.op.perform s.input given s.beginTick
  c.act s.input r.2 r.1

/-- Does the sequence complete at cycle `c`: it is the table's `last`, or its condition stops it (00_scope.md R11). -/
def Cycle.ends (c : Cycle) (given : Option Byte) (last : Bool) (s : State) : Bool := last || c.stops (c.run given s)

/-- One tick of a sequence in progress (40_sequencer.md R172): cycle `c`, then completion or the next cycle index. -/
def Cycle.tick (c : Cycle) (given : Option Byte) (last : Bool) (s : State) : State :=
  let s1 := c.run given s
  (if c.ends given last s then s1.complete s.input else s1.advance).popInput

/-- All the ticks of a sequence from the first cycle of `table` on. `bytes` are the instruction bytes the caller has
already; when they are used up, instruction bytes are read from the bus. -/
def runTable : List Byte → List Cycle → State → State
  | _, [], s => s
  | bytes, c :: rest, s =>
    let given := if c.op.takesByte then bytes.head? else none
    let t := c.tick given rest.isEmpty s
    if c.ends given rest.isEmpty s then t
    else runTable (if c.op.takesByte then bytes.tail else bytes) rest t

/-- Starting an instruction: `mode <- Exec; step <- 0; pfx <- 0` (40_sequencer.md R169). -/
def State.startInstr (s : State) : State :=
  { s with seq := { s.seq with mode := .exec, step := 0#3, pfx := false } }

/-- A whole instruction, from its c0 to its completion and poll point: its cycle table, its bytes as read. -/
def runInstr (bytes : List Byte) (table : List Cycle) (s : State) : Host.Outcome State Fault Refusal :=
  .next (runTable bytes table s.startInstr)

/-! ### The cycles the tables are written with -/

/-- No cycle stops its sequence early. -/
def neverStops (_ : State) : Bool := false

/-- c0 with actions that look at the tick's sample: HALT's (40_sequencer.md R170, 46_system.md R331). -/
def cOpcodeSampled (act : TickIn → State → State) : Cycle := ⟨.opcode, fun inp _ s => act inp s, neverStops⟩

/-- c0 with its actions (40_sequencer.md R170). -/
def cOpcode (act : State → State) : Cycle := cOpcodeSampled (fun _ s => act s)

/-- c0 with no action. -/
def c0 : Cycle := cOpcode id

/-- `Fetch()`, its byte to `act`. -/
def cFetch (act : Byte → State → State) : Cycle := ⟨.fetch, fun _ b s => act b s, neverStops⟩

/-- `z <- Fetch()`. -/
def cFetchZ : Cycle := cFetch (fun b s => s.setZ b)

/-- `w <- Fetch()`. -/
def cFetchW : Cycle := cFetch (fun b s => s.setW b)

/-- `Pop()`, its byte to `act`. -/
def cPop (act : Byte → State → State) : Cycle := ⟨.pop, fun _ b s => act b s, neverStops⟩

/-- `z <- Pop()`. -/
def cPopZ : Cycle := cPop (fun b s => s.setZ b)

/-- `w <- Pop()`. -/
def cPopW : Cycle := cPop (fun b s => s.setW b)

/-- `Push(v)`, then `act`. -/
def cPush (v : State → Byte) (act : State → State) : Cycle := ⟨.push v, fun _ _ s => act s, neverStops⟩

/-- `Idle()`, then `act`. -/
def cIdle (act : State → State) : Cycle := ⟨.idle, fun _ _ s => act s, neverStops⟩

/-- `MemRead(addr, 1)`, its byte to `act`. -/
def cRead (addr : State → Word) (act : Byte → State → State) : Cycle := ⟨.read addr, fun _ b s => act b s, neverStops⟩

/-- `MemWrite(addr, 1, v)`, then `act`. -/
def cWrite (addr : State → Word) (v : State → Byte) (act : State → State) : Cycle :=
  ⟨.write addr v, fun _ _ s => act s, neverStops⟩

/-- The same cycle, at which the sequence completes if the condition does not hold (45_control.md R300). -/
def Cycle.ifTaken (c : Cycle) (cc : Cond) : Cycle := { c with stops := fun s => !condHolds cc s.flags }

/-! ### Taking a trap, servicing an interrupt, returning (60_exceptions.md) -/

/-- Pushing the return address, high byte first (20_memory.md R80), then PC <- target. -/
def pushReturn (target : State → Word) : List Cycle :=
  [cPush (fun s => hiByte s.pc) id, cPush (fun s => loByte s.pc) (fun s => s.setPC (target s))]

/-- `Trap(vec)`: c1 to c3 of SWI and of the TRAP class (60_exceptions.md R404). Only PC is saved; IME, the flags and
every register keep their values. -/
def trapCycles (vec : Word) : List Cycle := cIdle id :: pushReturn (fun _ => vec)

/-- The vector of the service sequence from one tick's samples: the selected source's, or the fallback
(60_exceptions.md R423, R424). -/
def TickIn.vector (inp : TickIn) : Word :=
  match inp.selected with
  | some i => Config.vecInt i
  | none => Config.vecFallback

/-- c4 of the service sequence: selection from this tick's samples, IACK, PC <- vector (60_exceptions.md R420). -/
def cSelect : Cycle := ⟨.idleAck, fun inp _ s => s.setPC inp.vector, neverStops⟩

/-- The service sequence, five cycles (60_exceptions.md R420). -/
def serviceCycles : List Cycle :=
  [cIdle id, cIdle id, cPush (fun s => hiByte s.pc) id, cPush (fun s => loByte s.pc) id, cSelect]

/-- Starting the service sequence (40_sequencer.md R168). `ir`, `pfx`, `z` and `w` are not named by the rule. -/
def State.startService (s : State) : State :=
  { s with irqDetected := false, ime := false, seq := { s.seq with mode := .service, step := 0#3 } }

/-- Popping a return address and going there, then `act`: the last three cycles of RET, RET cc and RETI
(45_control.md R308 to R310). -/
def returnCycles (act : State → State) : List Cycle := [cPopZ, cPopW, cIdle (fun s => act (s.setPC s.wz))]

/-! ### The idle ticks of a boundary (40_sequencer.md R164 to R167) -/

/-- One tick with an idle cycle that changes nothing of the core (40_sequencer.md R165, R166). -/
def State.idleTick (s : State) : State := (s.beginTick.record (.idle none)).popInput

/-- The reset tick: an idle cycle, then every item of 10_state.md R20 at its reset value; the bus side is not
touched (40_sequencer.md R164, 70_reset_and_hazards.md R462, R470). -/
def State.resetTick (s : State) : State :=
  { State.reset with mem := s.idleTick.mem, inputs := s.idleTick.inputs, log := s.idleTick.log }

/-- The halted tick: an idle cycle; IRQ_PENDING wakes the core whatever IME is, and is detected if IME = 1
(40_sequencer.md R167). -/
def State.haltedTick (s : State) : State :=
  let s1 := s.idleTick
  if s.input.irqPending then { s1 with halted := false, irqDetected := s.irqDetected || s.ime } else s1

end Sys2Proof.Machine
end

