-- ==== Sys2Proof/Machine/Operands.lean ====
section
/-! DEFINITION. The operand forms: sign extension, effective addresses and the shared cycle tables of the addressing
modes (30_encoding.md R117, R130 to R139; 42_alu8.md R230; 47_prefixed.md R360). An instruction's own table, in its
family's file, is one of these over its operation. -/

namespace Sys2Proof.Machine

/-- `sext_16(v)` (00_scope.md R7). -/
def sext16 (v : Byte) : Word := v.signExtend 16

/-- The effective address HL + sext_16(d), modulo 2^16 (30_encoding.md R117, R137). -/
def indexedAddress (hl : Word) (d : Byte) : Word := hl + sext16 d

/-! ### Memory operands -/

/-- The idle cycle c2 of the indexed mode: `ea <- HL + sext_16(z); w <- hi(ea); z <- lo(ea)` (30_encoding.md R137). -/
def cIndex : Cycle :=
  cIdle (fun s =>
    let ea := indexedAddress s.hl s.seq.z
    (s.setW (hiByte ea)).setZ (loByte ea))

/-- A load through a register pair: c0, then `x <- MemRead(pair)` (30_encoding.md R135). -/
def loadIndirect (p : Pair) (act : Byte → State → State) : List Cycle := [c0, cRead (fun s => s.readPair p) act]

/-- A store through a register pair: c0, then `MemWrite(pair, v)` (30_encoding.md R135). -/
def storeIndirect (p : Pair) (v : State → Byte) : List Cycle := [c0, cWrite (fun s => s.readPair p) v id]

/-- A read-modify-write of the byte at HL after the cycles `front`: `z <- MemRead(HL)`, then the write of `f`'s
result and its flags; `f` takes the byte and the flags as they are in the writing cycle (42_alu8.md R243;
47_prefixed.md R360). -/
def modifyHL (f : Byte → Flags → Byte × Flags) : List Cycle :=
  [cRead State.hl (fun b s => s.setZ b),
   cWrite State.hl (fun s => (f s.seq.z s.flags).1) (fun s => s.setFlags (f s.seq.z s.flags).2)]

/-! ### The two-operand instructions (42_alu8.md R230) -/

/-- `operate`: the operation `op` on A and `v`, its result to A and its flags (42_alu8.md R234 to R241). -/
def State.operate (s : State) (op : AluOp) (v : Byte) : State :=
  let r := aluResult op s.regs.a v s.flags.cf
  (s.setA r.1).setFlags r.2

/-- Form A,r: one cycle (42_alu8.md R230). -/
def aluRegister (op : AluOp) (r : Reg) : List Cycle := [cOpcode (fun s => s.operate op (s.readReg r))]

/-- Form A,(HL): two cycles (42_alu8.md R230). -/
def aluMemory (op : AluOp) : List Cycle := [c0, cRead State.hl (fun b s => (s.setZ b).operate op b)]

/-- Form A,n: two cycles (42_alu8.md R230). -/
def aluImmediate (op : AluOp) : List Cycle := [c0, cFetch (fun b s => (s.setZ b).operate op b)]

/-- INC r and DEC r: one cycle (42_alu8.md R242, R244). -/
def stepRegister (f : Byte → Flags → Byte × Flags) (r : Reg) : List Cycle :=
  [cOpcode (fun s =>
    let v := f (s.readReg r) s.flags
    (s.writeReg r v.1).setFlags v.2)]

/-! ### The prefixed instructions (47_prefixed.md R360, 40_sequencer.md R171) -/

/-- `ir` latches the prefixed opcode, `pfx` is set (40_sequencer.md R171). -/
def State.latchPrefixed (s : State) (b : Byte) : State := { s with seq := { s.seq with ir := b, pfx := true } }

/-- c1 after the prefix byte: `ir <- Fetch(); pfx <- 1`, then the c1 actions (40_sequencer.md R171). -/
def cPrefixed (act : State → State) : Cycle := cFetch (fun b s => act (s.latchPrefixed b))

/-- Register form: two cycles (47_prefixed.md R360). -/
def prefixedRegister (f : Byte → Flags → Byte × Flags) (r : Reg) : List Cycle :=
  [c0, cPrefixed (fun s =>
    let v := f (s.readReg r) s.flags
    (s.writeReg r v.1).setFlags v.2)]

/-- Memory form: four cycles (47_prefixed.md R360). -/
def prefixedMemory (f : Byte → Flags → Byte × Flags) : List Cycle := c0 :: cPrefixed id :: modifyHL f

/-- A rotate or shift as an operation on a byte and the flags (47_prefixed.md R361 to R368). -/
def shiftOperation (op : ShiftOp) (v : Byte) (f : Flags) : Byte × Flags := shiftResult op v f.cf

/-- RES b as an operation on a byte and the flags, which it keeps (47_prefixed.md R370). -/
def resOperation (b : Oct) (v : Byte) (f : Flags) : Byte × Flags := (clearBit b v, f)

/-- SET b as an operation on a byte and the flags, which it keeps (47_prefixed.md R371). -/
def setOperation (b : Oct) (v : Byte) (f : Flags) : Byte × Flags := (setBit b v, f)

/-- BIT b,r: two cycles, ZF only (47_prefixed.md R360, R369). -/
def bitRegister (b : Oct) (r : Reg) : List Cycle :=
  [c0, cPrefixed (fun s => s.setFlags (bitFlags b (s.readReg r) s.flags))]

/-- BIT b,(HL): three cycles, no write (47_prefixed.md R360, R369). -/
def bitMemory (b : Oct) : List Cycle :=
  [c0, cPrefixed id, cRead State.hl (fun v s => (s.setZ v).setFlags (bitFlags b v s.flags))]

end Sys2Proof.Machine
end

