-- ==== Sys2Proof/Machine/Alu8.lean ====
section
/-! DEFINITION. The meanings of 8-bit arithmetic and logic (42_alu8.md R230 to R249): for each
instruction its cycle table and the meaning that runs it. -/

namespace Sys2Proof.Machine

/-- ADD A,r: cycles of rule R234, 42_alu8.md. -/
def cyclesAddAR (r : Reg) : List Cycle :=
  aluRegister .add r

/-- ADD A,r (R234). -/
def execAddAR (r : Reg) (st : State) : Host.Outcome State Fault Refusal :=
  runInstr (encode (.addAR r)) (cyclesAddAR r) st

/-- ADD A,(HL): cycles of rule R234, 42_alu8.md. -/
def cyclesAddAM : List Cycle :=
  aluMemory .add

/-- ADD A,(HL) (R234). -/
def execAddAM (st : State) : Host.Outcome State Fault Refusal :=
  runInstr (encode (.addAM)) cyclesAddAM st

/-- ADD A,n: cycles of rule R234, 42_alu8.md. -/
def cyclesAddAN : List Cycle :=
  aluImmediate .add

/-- ADD A,n (R234). -/
def execAddAN (n : Byte) (st : State) : Host.Outcome State Fault Refusal :=
  runInstr (encode (.addAN n)) cyclesAddAN st

/-- ADC A,r: cycles of rule R235, 42_alu8.md. -/
def cyclesAdcAR (r : Reg) : List Cycle :=
  aluRegister .adc r

/-- ADC A,r (R235). -/
def execAdcAR (r : Reg) (st : State) : Host.Outcome State Fault Refusal :=
  runInstr (encode (.adcAR r)) (cyclesAdcAR r) st

/-- ADC A,(HL): cycles of rule R235, 42_alu8.md. -/
def cyclesAdcAM : List Cycle :=
  aluMemory .adc

/-- ADC A,(HL) (R235). -/
def execAdcAM (st : State) : Host.Outcome State Fault Refusal :=
  runInstr (encode (.adcAM)) cyclesAdcAM st

/-- ADC A,n: cycles of rule R235, 42_alu8.md. -/
def cyclesAdcAN : List Cycle :=
  aluImmediate .adc

/-- ADC A,n (R235). -/
def execAdcAN (n : Byte) (st : State) : Host.Outcome State Fault Refusal :=
  runInstr (encode (.adcAN n)) cyclesAdcAN st

/-- SUB A,r: cycles of rule R236, 42_alu8.md. -/
def cyclesSubAR (r : Reg) : List Cycle :=
  aluRegister .sub r

/-- SUB A,r (R236). -/
def execSubAR (r : Reg) (st : State) : Host.Outcome State Fault Refusal :=
  runInstr (encode (.subAR r)) (cyclesSubAR r) st

/-- SUB A,(HL): cycles of rule R236, 42_alu8.md. -/
def cyclesSubAM : List Cycle :=
  aluMemory .sub

/-- SUB A,(HL) (R236). -/
def execSubAM (st : State) : Host.Outcome State Fault Refusal :=
  runInstr (encode (.subAM)) cyclesSubAM st

/-- SUB A,n: cycles of rule R236, 42_alu8.md. -/
def cyclesSubAN : List Cycle :=
  aluImmediate .sub

/-- SUB A,n (R236). -/
def execSubAN (n : Byte) (st : State) : Host.Outcome State Fault Refusal :=
  runInstr (encode (.subAN n)) cyclesSubAN st

/-- SBC A,r: cycles of rule R237, 42_alu8.md. -/
def cyclesSbcAR (r : Reg) : List Cycle :=
  aluRegister .sbc r

/-- SBC A,r (R237). -/
def execSbcAR (r : Reg) (st : State) : Host.Outcome State Fault Refusal :=
  runInstr (encode (.sbcAR r)) (cyclesSbcAR r) st

/-- SBC A,(HL): cycles of rule R237, 42_alu8.md. -/
def cyclesSbcAM : List Cycle :=
  aluMemory .sbc

/-- SBC A,(HL) (R237). -/
def execSbcAM (st : State) : Host.Outcome State Fault Refusal :=
  runInstr (encode (.sbcAM)) cyclesSbcAM st

/-- SBC A,n: cycles of rule R237, 42_alu8.md. -/
def cyclesSbcAN : List Cycle :=
  aluImmediate .sbc

/-- SBC A,n (R237). -/
def execSbcAN (n : Byte) (st : State) : Host.Outcome State Fault Refusal :=
  runInstr (encode (.sbcAN n)) cyclesSbcAN st

/-- AND A,r: cycles of rule R238, 42_alu8.md. -/
def cyclesAndAR (r : Reg) : List Cycle :=
  aluRegister .and r

/-- AND A,r (R238). -/
def execAndAR (r : Reg) (st : State) : Host.Outcome State Fault Refusal :=
  runInstr (encode (.andAR r)) (cyclesAndAR r) st

/-- AND A,(HL): cycles of rule R238, 42_alu8.md. -/
def cyclesAndAM : List Cycle :=
  aluMemory .and

/-- AND A,(HL) (R238). -/
def execAndAM (st : State) : Host.Outcome State Fault Refusal :=
  runInstr (encode (.andAM)) cyclesAndAM st

/-- AND A,n: cycles of rule R238, 42_alu8.md. -/
def cyclesAndAN : List Cycle :=
  aluImmediate .and

/-- AND A,n (R238). -/
def execAndAN (n : Byte) (st : State) : Host.Outcome State Fault Refusal :=
  runInstr (encode (.andAN n)) cyclesAndAN st

/-- XOR A,r: cycles of rule R239, 42_alu8.md. -/
def cyclesXorAR (r : Reg) : List Cycle :=
  aluRegister .xor r

/-- XOR A,r (R239). -/
def execXorAR (r : Reg) (st : State) : Host.Outcome State Fault Refusal :=
  runInstr (encode (.xorAR r)) (cyclesXorAR r) st

/-- XOR A,(HL): cycles of rule R239, 42_alu8.md. -/
def cyclesXorAM : List Cycle :=
  aluMemory .xor

/-- XOR A,(HL) (R239). -/
def execXorAM (st : State) : Host.Outcome State Fault Refusal :=
  runInstr (encode (.xorAM)) cyclesXorAM st

/-- XOR A,n: cycles of rule R239, 42_alu8.md. -/
def cyclesXorAN : List Cycle :=
  aluImmediate .xor

/-- XOR A,n (R239). -/
def execXorAN (n : Byte) (st : State) : Host.Outcome State Fault Refusal :=
  runInstr (encode (.xorAN n)) cyclesXorAN st

/-- OR A,r: cycles of rule R240, 42_alu8.md. -/
def cyclesOrAR (r : Reg) : List Cycle :=
  aluRegister .or r

/-- OR A,r (R240). -/
def execOrAR (r : Reg) (st : State) : Host.Outcome State Fault Refusal :=
  runInstr (encode (.orAR r)) (cyclesOrAR r) st

/-- OR A,(HL): cycles of rule R240, 42_alu8.md. -/
def cyclesOrAM : List Cycle :=
  aluMemory .or

/-- OR A,(HL) (R240). -/
def execOrAM (st : State) : Host.Outcome State Fault Refusal :=
  runInstr (encode (.orAM)) cyclesOrAM st

/-- OR A,n: cycles of rule R240, 42_alu8.md. -/
def cyclesOrAN : List Cycle :=
  aluImmediate .or

/-- OR A,n (R240). -/
def execOrAN (n : Byte) (st : State) : Host.Outcome State Fault Refusal :=
  runInstr (encode (.orAN n)) cyclesOrAN st

/-- CP A,r: cycles of rule R241, 42_alu8.md. -/
def cyclesCpAR (r : Reg) : List Cycle :=
  aluRegister .cp r

/-- CP A,r (R241). -/
def execCpAR (r : Reg) (st : State) : Host.Outcome State Fault Refusal :=
  runInstr (encode (.cpAR r)) (cyclesCpAR r) st

/-- CP A,(HL): cycles of rule R241, 42_alu8.md. -/
def cyclesCpAM : List Cycle :=
  aluMemory .cp

/-- CP A,(HL) (R241). -/
def execCpAM (st : State) : Host.Outcome State Fault Refusal :=
  runInstr (encode (.cpAM)) cyclesCpAM st

/-- CP A,n: cycles of rule R241, 42_alu8.md. -/
def cyclesCpAN : List Cycle :=
  aluImmediate .cp

/-- CP A,n (R241). -/
def execCpAN (n : Byte) (st : State) : Host.Outcome State Fault Refusal :=
  runInstr (encode (.cpAN n)) cyclesCpAN st

/-- INC r: cycles of rule R242, 42_alu8.md. -/
def cyclesIncR (r : Reg) : List Cycle :=
  stepRegister inc8 r

/-- INC r (R242). -/
def execIncR (r : Reg) (st : State) : Host.Outcome State Fault Refusal :=
  runInstr (encode (.incR r)) (cyclesIncR r) st

/-- INC (HL): cycles of rule R243, 42_alu8.md. -/
def cyclesIncM : List Cycle :=
  c0 :: modifyHL inc8

/-- INC (HL) (R243). -/
def execIncM (st : State) : Host.Outcome State Fault Refusal :=
  runInstr (encode (.incM)) cyclesIncM st

/-- DEC r: cycles of rule R244, 42_alu8.md. -/
def cyclesDecR (r : Reg) : List Cycle :=
  stepRegister dec8 r

/-- DEC r (R244). -/
def execDecR (r : Reg) (st : State) : Host.Outcome State Fault Refusal :=
  runInstr (encode (.decR r)) (cyclesDecR r) st

/-- DEC (HL): cycles of rule R245, 42_alu8.md. -/
def cyclesDecM : List Cycle :=
  c0 :: modifyHL dec8

/-- DEC (HL) (R245). -/
def execDecM (st : State) : Host.Outcome State Fault Refusal :=
  runInstr (encode (.decM)) cyclesDecM st

/-- CPL: cycles of rule R246, 42_alu8.md. -/
def cyclesCpl : List Cycle :=
  [cOpcode (fun st => st.setA (~~~st.regs.a))]

/-- CPL (R246). -/
def execCpl (st : State) : Host.Outcome State Fault Refusal :=
  runInstr (encode (.cpl)) cyclesCpl st

/-- SCF: cycles of rule R247, 42_alu8.md. -/
def cyclesScf : List Cycle :=
  [cOpcode (fun st => st.setFlags { st.flags with cf := true })]

/-- SCF (R247). -/
def execScf (st : State) : Host.Outcome State Fault Refusal :=
  runInstr (encode (.scf)) cyclesScf st

/-- CCF: cycles of rule R248, 42_alu8.md. -/
def cyclesCcf : List Cycle :=
  [cOpcode (fun st => st.setFlags { st.flags with cf := !st.flags.cf })]

/-- CCF (R248). -/
def execCcf (st : State) : Host.Outcome State Fault Refusal :=
  runInstr (encode (.ccf)) cyclesCcf st

end Sys2Proof.Machine
end

