-- ==== Sys2Proof/Machine/Arith16.lean ====
section
/-! DEFINITION. The meanings of 16-bit arithmetic (44_arith16.md R290 to R292): for each
instruction its cycle table and the meaning that runs it. -/

namespace Sys2Proof.Machine

/-- INC pp: cycles of rule R290, 44_arith16.md. -/
def cyclesIncPp (pp : Pair) : List Cycle :=
  [c0, cIdle (fun st => st.writePair pp (st.readPair pp + 1#16))]

/-- INC pp (R290). -/
def execIncPp (pp : Pair) (st : State) : Host.Outcome State Fault Refusal :=
  runInstr (encode (.incPp pp)) (cyclesIncPp pp) st

/-- DEC pp: cycles of rule R291, 44_arith16.md. -/
def cyclesDecPp (pp : Pair) : List Cycle :=
  [c0, cIdle (fun st => st.writePair pp (st.readPair pp - 1#16))]

/-- DEC pp (R291). -/
def execDecPp (pp : Pair) (st : State) : Host.Outcome State Fault Refusal :=
  runInstr (encode (.decPp pp)) (cyclesDecPp pp) st

/-- ADD HL,pp: cycles of rule R292, 44_arith16.md. -/
def cyclesAddHlPp (pp : Pair) : List Cycle :=
  [c0, cIdle (fun st =>
    let v := add16 st.hl (st.readPair pp) st.flags
    (st.writePair .hl v.1).setFlags v.2)]

/-- ADD HL,pp (R292). -/
def execAddHlPp (pp : Pair) (st : State) : Host.Outcome State Fault Refusal :=
  runInstr (encode (.addHlPp pp)) (cyclesAddHlPp pp) st

end Sys2Proof.Machine
end

