-- ==== Sys2Proof/Machine/Control.lean ====
section
/-! DEFINITION. The meanings of jumps, calls and returns (45_control.md R300 to R310): for each
instruction its cycle table and the meaning that runs it. -/

namespace Sys2Proof.Machine

/-- JR e: cycles of rule R301, 45_control.md. -/
def cyclesJr : List Cycle :=
  [c0, cFetchZ, cIdle (fun st => st.setPC (st.pc + sext16 st.seq.z))]

/-- JR e (R301). -/
def execJr (off : Byte) (st : State) : Host.Outcome State Fault Refusal :=
  runInstr (encode (.jr off)) cyclesJr st

/-- JR cc,e: cycles of rule R302, 45_control.md. -/
def cyclesJrCc (cc : Cond) : List Cycle :=
  [c0, cFetchZ.ifTaken cc, cIdle (fun st => st.setPC (st.pc + sext16 st.seq.z))]

/-- JR cc,e (R302). -/
def execJrCc (cc : Cond) (off : Byte) (st : State) : Host.Outcome State Fault Refusal :=
  runInstr (encode (.jrCc cc off)) (cyclesJrCc cc) st

/-- JP nn: cycles of rule R303, 45_control.md. -/
def cyclesJp : List Cycle :=
  [c0, cFetchZ, cFetchW, cIdle (fun st => st.setPC st.wz)]

/-- JP nn (R303). -/
def execJp (nn : Word) (st : State) : Host.Outcome State Fault Refusal :=
  runInstr (encode (.jp nn)) cyclesJp st

/-- JP cc,nn: cycles of rule R304, 45_control.md. -/
def cyclesJpCc (cc : Cond) : List Cycle :=
  [c0, cFetchZ, cFetchW.ifTaken cc, cIdle (fun st => st.setPC st.wz)]

/-- JP cc,nn (R304). -/
def execJpCc (cc : Cond) (nn : Word) (st : State) : Host.Outcome State Fault Refusal :=
  runInstr (encode (.jpCc cc nn)) (cyclesJpCc cc) st

/-- JP (HL): cycles of rule R305, 45_control.md. -/
def cyclesJpHl : List Cycle :=
  [cOpcode (fun st => st.setPC st.hl)]

/-- JP (HL) (R305). -/
def execJpHl (st : State) : Host.Outcome State Fault Refusal :=
  runInstr (encode (.jpHl)) cyclesJpHl st

/-- CALL nn: cycles of rule R306, 45_control.md. -/
def cyclesCall : List Cycle :=
  c0 :: cFetchZ :: cFetchW :: cIdle id :: pushReturn State.wz

/-- CALL nn (R306). -/
def execCall (nn : Word) (st : State) : Host.Outcome State Fault Refusal :=
  runInstr (encode (.call nn)) cyclesCall st

/-- CALL cc,nn: cycles of rule R307, 45_control.md. -/
def cyclesCallCc (cc : Cond) : List Cycle :=
  c0 :: cFetchZ :: cFetchW.ifTaken cc :: cIdle id :: pushReturn State.wz

/-- CALL cc,nn (R307). -/
def execCallCc (cc : Cond) (nn : Word) (st : State) : Host.Outcome State Fault Refusal :=
  runInstr (encode (.callCc cc nn)) (cyclesCallCc cc) st

/-- RET: cycles of rule R308, 45_control.md. -/
def cyclesRet : List Cycle :=
  c0 :: returnCycles id

/-- RET (R308). -/
def execRet (st : State) : Host.Outcome State Fault Refusal :=
  runInstr (encode (.ret)) cyclesRet st

/-- RET cc: cycles of rule R309, 45_control.md. -/
def cyclesRetCc (cc : Cond) : List Cycle :=
  c0 :: (cIdle id).ifTaken cc :: returnCycles id

/-- RET cc (R309). -/
def execRetCc (cc : Cond) (st : State) : Host.Outcome State Fault Refusal :=
  runInstr (encode (.retCc cc)) (cyclesRetCc cc) st

/-- RETI: cycles of rule R310, 45_control.md. -/
def cyclesReti : List Cycle :=
  c0 :: returnCycles (fun st => st.setIME true)

/-- RETI (R310). -/
def execReti (st : State) : Host.Outcome State Fault Refusal :=
  runInstr (encode (.reti)) cyclesReti st

end Sys2Proof.Machine
end

