-- ==== Sys2Proof/Machine/Load16.lean ====
section
/-! DEFINITION. The meanings of 16-bit loads and the stack (43_load16_stack.md R270 to R275): for each
instruction its cycle table and the meaning that runs it. -/

namespace Sys2Proof.Machine

/-- LD pp,nn: cycles of rule R270, 43_load16_stack.md. -/
def cyclesLdPpNn (pp : Pair) : List Cycle :=
  [c0, cFetchZ, cFetch (fun b st => (st.setW b).writePair pp (st.setW b).wz)]

/-- LD pp,nn (R270). -/
def execLdPpNn (pp : Pair) (nn : Word) (st : State) : Host.Outcome State Fault Refusal :=
  runInstr (encode (.ldPpNn pp nn)) (cyclesLdPpNn pp) st

/-- LD SP,HL: cycles of rule R271, 43_load16_stack.md. -/
def cyclesLdSpHl : List Cycle :=
  [c0, cIdle (fun st => st.setSP st.hl)]

/-- LD SP,HL (R271). -/
def execLdSpHl (st : State) : Host.Outcome State Fault Refusal :=
  runInstr (encode (.ldSpHl)) cyclesLdSpHl st

/-- PUSH qq: cycles of rule R272, 43_load16_stack.md. -/
def cyclesPushQq (qq : PairQ) : List Cycle :=
  [c0, cIdle id, cPush (fun st => hiByte (st.readPair qq.toPair)) id, cPush (fun st => loByte (st.readPair qq.toPair)) id]

/-- PUSH qq (R272). -/
def execPushQq (qq : PairQ) (st : State) : Host.Outcome State Fault Refusal :=
  runInstr (encode (.pushQq qq)) (cyclesPushQq qq) st

/-- POP qq: cycles of rule R273, 43_load16_stack.md. -/
def cyclesPopQq (qq : PairQ) : List Cycle :=
  [c0, cPopZ, cPop (fun b st => (st.setW b).writePair qq.toPair (st.setW b).wz)]

/-- POP qq (R273). -/
def execPopQq (qq : PairQ) (st : State) : Host.Outcome State Fault Refusal :=
  runInstr (encode (.popQq qq)) (cyclesPopQq qq) st

/-- PUSH AF: cycles of rule R274, 43_load16_stack.md. -/
def cyclesPushAf : List Cycle :=
  [c0, cIdle id, cPush (fun st => hiByte st.readAF) id, cPush (fun st => loByte st.readAF) id]

/-- PUSH AF (R274). -/
def execPushAf (st : State) : Host.Outcome State Fault Refusal :=
  runInstr (encode (.pushAf)) cyclesPushAf st

/-- POP AF: cycles of rule R275, 43_load16_stack.md. -/
def cyclesPopAf : List Cycle :=
  [c0, cPopZ, cPop (fun b st => (st.setW b).writeAF (st.setW b).wz)]

/-- POP AF (R275). -/
def execPopAf (st : State) : Host.Outcome State Fault Refusal :=
  runInstr (encode (.popAf)) cyclesPopAf st

end Sys2Proof.Machine
end

