-- ==== Sys2Proof/Machine/Load8.lean ====
section
/-! DEFINITION. The meanings of 8-bit loads and stores (41_load8.md R200 to R212): for each
instruction its cycle table and the meaning that runs it. -/

namespace Sys2Proof.Machine

/-- LD r,r': cycles of rule R200, 41_load8.md. -/
def cyclesLdRR (dst : Reg) (src : Reg) : List Cycle :=
  [cOpcode (fun st => st.writeReg dst (st.readReg src))]

/-- LD r,r' (R200). -/
def execLdRR (dst : Reg) (src : Reg) (st : State) : Host.Outcome State Fault Refusal :=
  runInstr (encode (.ldRR dst src)) (cyclesLdRR dst src) st

/-- LD r,(HL): cycles of rule R201, 41_load8.md. -/
def cyclesLdRM (dst : Reg) : List Cycle :=
  loadIndirect .hl (fun v st => st.writeReg dst v)

/-- LD r,(HL) (R201). -/
def execLdRM (dst : Reg) (st : State) : Host.Outcome State Fault Refusal :=
  runInstr (encode (.ldRM dst)) (cyclesLdRM dst) st

/-- LD (HL),r: cycles of rule R202, 41_load8.md. -/
def cyclesLdMR (src : Reg) : List Cycle :=
  storeIndirect .hl (fun st => st.readReg src)

/-- LD (HL),r (R202). -/
def execLdMR (src : Reg) (st : State) : Host.Outcome State Fault Refusal :=
  runInstr (encode (.ldMR src)) (cyclesLdMR src) st

/-- LD r,n: cycles of rule R203, 41_load8.md. -/
def cyclesLdRN (r : Reg) : List Cycle :=
  [c0, cFetch (fun v st => st.writeReg r v)]

/-- LD r,n (R203). -/
def execLdRN (r : Reg) (n : Byte) (st : State) : Host.Outcome State Fault Refusal :=
  runInstr (encode (.ldRN r n)) (cyclesLdRN r) st

/-- LD (HL),n: cycles of rule R204, 41_load8.md. -/
def cyclesLdMN : List Cycle :=
  [c0, cFetchZ, cWrite State.hl (fun st => st.seq.z) id]

/-- LD (HL),n (R204). -/
def execLdMN (n : Byte) (st : State) : Host.Outcome State Fault Refusal :=
  runInstr (encode (.ldMN n)) cyclesLdMN st

/-- LD A,(BC): cycles of rule R205, 41_load8.md. -/
def cyclesLdABc : List Cycle :=
  loadIndirect .bc (fun v st => st.setA v)

/-- LD A,(BC) (R205). -/
def execLdABc (st : State) : Host.Outcome State Fault Refusal :=
  runInstr (encode (.ldABc)) cyclesLdABc st

/-- LD A,(DE): cycles of rule R206, 41_load8.md. -/
def cyclesLdADe : List Cycle :=
  loadIndirect .de (fun v st => st.setA v)

/-- LD A,(DE) (R206). -/
def execLdADe (st : State) : Host.Outcome State Fault Refusal :=
  runInstr (encode (.ldADe)) cyclesLdADe st

/-- LD (BC),A: cycles of rule R207, 41_load8.md. -/
def cyclesLdBcA : List Cycle :=
  storeIndirect .bc (fun st => st.regs.a)

/-- LD (BC),A (R207). -/
def execLdBcA (st : State) : Host.Outcome State Fault Refusal :=
  runInstr (encode (.ldBcA)) cyclesLdBcA st

/-- LD (DE),A: cycles of rule R208, 41_load8.md. -/
def cyclesLdDeA : List Cycle :=
  storeIndirect .de (fun st => st.regs.a)

/-- LD (DE),A (R208). -/
def execLdDeA (st : State) : Host.Outcome State Fault Refusal :=
  runInstr (encode (.ldDeA)) cyclesLdDeA st

/-- LD A,(nn): cycles of rule R209, 41_load8.md. -/
def cyclesLdANn : List Cycle :=
  [c0, cFetchZ, cFetchW, cRead State.wz (fun v st => st.setA v)]

/-- LD A,(nn) (R209). -/
def execLdANn (nn : Word) (st : State) : Host.Outcome State Fault Refusal :=
  runInstr (encode (.ldANn nn)) cyclesLdANn st

/-- LD (nn),A: cycles of rule R210, 41_load8.md. -/
def cyclesLdNnA : List Cycle :=
  [c0, cFetchZ, cFetchW, cWrite State.wz (fun st => st.regs.a) id]

/-- LD (nn),A (R210). -/
def execLdNnA (nn : Word) (st : State) : Host.Outcome State Fault Refusal :=
  runInstr (encode (.ldNnA nn)) cyclesLdNnA st

/-- LD A,(HL+d): cycles of rule R211, 41_load8.md. -/
def cyclesLdAHld : List Cycle :=
  [c0, cFetchZ, cIndex, cRead State.wz (fun v st => st.setA v)]

/-- LD A,(HL+d) (R211). -/
def execLdAHld (disp : Byte) (st : State) : Host.Outcome State Fault Refusal :=
  runInstr (encode (.ldAHld disp)) cyclesLdAHld st

/-- LD (HL+d),A: cycles of rule R212, 41_load8.md. -/
def cyclesLdHldA : List Cycle :=
  [c0, cFetchZ, cIndex, cWrite State.wz (fun st => st.regs.a) id]

/-- LD (HL+d),A (R212). -/
def execLdHldA (disp : Byte) (st : State) : Host.Outcome State Fault Refusal :=
  runInstr (encode (.ldHldA disp)) cyclesLdHldA st

end Sys2Proof.Machine
end

