-- ==== Sys2Proof/Machine/Prefixed.lean ====
section
/-! DEFINITION. The meanings of the prefixed instructions (47_prefixed.md R360 to R371): for each
instruction its cycle table and the meaning that runs it. -/

namespace Sys2Proof.Machine

/-- RLC r: cycles of rule R361, 47_prefixed.md. -/
def cyclesRlcR (r : Reg) : List Cycle :=
  prefixedRegister (shiftOperation .rlc) r

/-- RLC r (R361). -/
def execRlcR (r : Reg) (st : State) : Host.Outcome State Fault Refusal :=
  runInstr (encode (.rlcR r)) (cyclesRlcR r) st

/-- RLC (HL): cycles of rule R361, 47_prefixed.md. -/
def cyclesRlcM : List Cycle :=
  prefixedMemory (shiftOperation .rlc)

/-- RLC (HL) (R361). -/
def execRlcM (st : State) : Host.Outcome State Fault Refusal :=
  runInstr (encode (.rlcM)) cyclesRlcM st

/-- RRC r: cycles of rule R362, 47_prefixed.md. -/
def cyclesRrcR (r : Reg) : List Cycle :=
  prefixedRegister (shiftOperation .rrc) r

/-- RRC r (R362). -/
def execRrcR (r : Reg) (st : State) : Host.Outcome State Fault Refusal :=
  runInstr (encode (.rrcR r)) (cyclesRrcR r) st

/-- RRC (HL): cycles of rule R362, 47_prefixed.md. -/
def cyclesRrcM : List Cycle :=
  prefixedMemory (shiftOperation .rrc)

/-- RRC (HL) (R362). -/
def execRrcM (st : State) : Host.Outcome State Fault Refusal :=
  runInstr (encode (.rrcM)) cyclesRrcM st

/-- RL r: cycles of rule R363, 47_prefixed.md. -/
def cyclesRlR (r : Reg) : List Cycle :=
  prefixedRegister (shiftOperation .rl) r

/-- RL r (R363). -/
def execRlR (r : Reg) (st : State) : Host.Outcome State Fault Refusal :=
  runInstr (encode (.rlR r)) (cyclesRlR r) st

/-- RL (HL): cycles of rule R363, 47_prefixed.md. -/
def cyclesRlM : List Cycle :=
  prefixedMemory (shiftOperation .rl)

/-- RL (HL) (R363). -/
def execRlM (st : State) : Host.Outcome State Fault Refusal :=
  runInstr (encode (.rlM)) cyclesRlM st

/-- RR r: cycles of rule R364, 47_prefixed.md. -/
def cyclesRrR (r : Reg) : List Cycle :=
  prefixedRegister (shiftOperation .rr) r

/-- RR r (R364). -/
def execRrR (r : Reg) (st : State) : Host.Outcome State Fault Refusal :=
  runInstr (encode (.rrR r)) (cyclesRrR r) st

/-- RR (HL): cycles of rule R364, 47_prefixed.md. -/
def cyclesRrM : List Cycle :=
  prefixedMemory (shiftOperation .rr)

/-- RR (HL) (R364). -/
def execRrM (st : State) : Host.Outcome State Fault Refusal :=
  runInstr (encode (.rrM)) cyclesRrM st

/-- SLA r: cycles of rule R365, 47_prefixed.md. -/
def cyclesSlaR (r : Reg) : List Cycle :=
  prefixedRegister (shiftOperation .sla) r

/-- SLA r (R365). -/
def execSlaR (r : Reg) (st : State) : Host.Outcome State Fault Refusal :=
  runInstr (encode (.slaR r)) (cyclesSlaR r) st

/-- SLA (HL): cycles of rule R365, 47_prefixed.md. -/
def cyclesSlaM : List Cycle :=
  prefixedMemory (shiftOperation .sla)

/-- SLA (HL) (R365). -/
def execSlaM (st : State) : Host.Outcome State Fault Refusal :=
  runInstr (encode (.slaM)) cyclesSlaM st

/-- SRA r: cycles of rule R366, 47_prefixed.md. -/
def cyclesSraR (r : Reg) : List Cycle :=
  prefixedRegister (shiftOperation .sra) r

/-- SRA r (R366). -/
def execSraR (r : Reg) (st : State) : Host.Outcome State Fault Refusal :=
  runInstr (encode (.sraR r)) (cyclesSraR r) st

/-- SRA (HL): cycles of rule R366, 47_prefixed.md. -/
def cyclesSraM : List Cycle :=
  prefixedMemory (shiftOperation .sra)

/-- SRA (HL) (R366). -/
def execSraM (st : State) : Host.Outcome State Fault Refusal :=
  runInstr (encode (.sraM)) cyclesSraM st

/-- SWAP r: cycles of rule R367, 47_prefixed.md. -/
def cyclesSwapR (r : Reg) : List Cycle :=
  prefixedRegister (shiftOperation .swap) r

/-- SWAP r (R367). -/
def execSwapR (r : Reg) (st : State) : Host.Outcome State Fault Refusal :=
  runInstr (encode (.swapR r)) (cyclesSwapR r) st

/-- SWAP (HL): cycles of rule R367, 47_prefixed.md. -/
def cyclesSwapM : List Cycle :=
  prefixedMemory (shiftOperation .swap)

/-- SWAP (HL) (R367). -/
def execSwapM (st : State) : Host.Outcome State Fault Refusal :=
  runInstr (encode (.swapM)) cyclesSwapM st

/-- SRL r: cycles of rule R368, 47_prefixed.md. -/
def cyclesSrlR (r : Reg) : List Cycle :=
  prefixedRegister (shiftOperation .srl) r

/-- SRL r (R368). -/
def execSrlR (r : Reg) (st : State) : Host.Outcome State Fault Refusal :=
  runInstr (encode (.srlR r)) (cyclesSrlR r) st

/-- SRL (HL): cycles of rule R368, 47_prefixed.md. -/
def cyclesSrlM : List Cycle :=
  prefixedMemory (shiftOperation .srl)

/-- SRL (HL) (R368). -/
def execSrlM (st : State) : Host.Outcome State Fault Refusal :=
  runInstr (encode (.srlM)) cyclesSrlM st

/-- BIT b,r: cycles of rule R369, 47_prefixed.md. -/
def cyclesBitR (b : Oct) (r : Reg) : List Cycle :=
  bitRegister b r

/-- BIT b,r (R369). -/
def execBitR (b : Oct) (r : Reg) (st : State) : Host.Outcome State Fault Refusal :=
  runInstr (encode (.bitR b r)) (cyclesBitR b r) st

/-- BIT b,(HL): cycles of rule R369, 47_prefixed.md. -/
def cyclesBitM (b : Oct) : List Cycle :=
  bitMemory b

/-- BIT b,(HL) (R369). -/
def execBitM (b : Oct) (st : State) : Host.Outcome State Fault Refusal :=
  runInstr (encode (.bitM b)) (cyclesBitM b) st

/-- RES b,r: cycles of rule R370, 47_prefixed.md. -/
def cyclesResR (b : Oct) (r : Reg) : List Cycle :=
  prefixedRegister (resOperation b) r

/-- RES b,r (R370). -/
def execResR (b : Oct) (r : Reg) (st : State) : Host.Outcome State Fault Refusal :=
  runInstr (encode (.resR b r)) (cyclesResR b r) st

/-- RES b,(HL): cycles of rule R370, 47_prefixed.md. -/
def cyclesResM (b : Oct) : List Cycle :=
  prefixedMemory (resOperation b)

/-- RES b,(HL) (R370). -/
def execResM (b : Oct) (st : State) : Host.Outcome State Fault Refusal :=
  runInstr (encode (.resM b)) (cyclesResM b) st

/-- SET b,r: cycles of rule R371, 47_prefixed.md. -/
def cyclesSetR (b : Oct) (r : Reg) : List Cycle :=
  prefixedRegister (setOperation b) r

/-- SET b,r (R371). -/
def execSetR (b : Oct) (r : Reg) (st : State) : Host.Outcome State Fault Refusal :=
  runInstr (encode (.setR b r)) (cyclesSetR b r) st

/-- SET b,(HL): cycles of rule R371, 47_prefixed.md. -/
def cyclesSetM (b : Oct) : List Cycle :=
  prefixedMemory (setOperation b)

/-- SET b,(HL) (R371). -/
def execSetM (b : Oct) (st : State) : Host.Outcome State Fault Refusal :=
  runInstr (encode (.setM b)) (cyclesSetM b) st

end Sys2Proof.Machine
end

