-- ==== Sys2Proof/Machine/System.lean ====
section
/-! DEFINITION. The meanings of system instructions and undefined opcodes (46_system.md R330 to R345): for each
instruction its cycle table and the meaning that runs it. -/

namespace Sys2Proof.Machine

/-- HALT's c0 actions, from this tick's IRQ_PENDING: pending and IME = 0 is the halt glitch, pending and IME = 1 does
nothing, not pending halts (46_system.md R331). -/
def State.haltEntry (s : State) (inp : TickIn) : State :=
  if inp.irqPending then (if s.ime then s else { s with haltBug := true }) else { s with halted := true }

/-- NOP: cycles of rule R330, 46_system.md. -/
def cyclesNop : List Cycle :=
  [c0]

/-- NOP (R330). -/
def execNop (st : State) : Host.Outcome State Fault Refusal :=
  runInstr (encode (.nop)) cyclesNop st

/-- HALT: cycles of rule R331, 46_system.md. -/
def cyclesHalt : List Cycle :=
  [cOpcodeSampled (fun inp st => st.haltEntry inp)]

/-- HALT (R331). -/
def execHalt (st : State) : Host.Outcome State Fault Refusal :=
  runInstr (encode (.halt)) cyclesHalt st

/-- EI: cycles of rule R332, 46_system.md. -/
def cyclesEi : List Cycle :=
  [cOpcode (fun st => { st with eiPending := true })]

/-- EI (R332). -/
def execEi (st : State) : Host.Outcome State Fault Refusal :=
  runInstr (encode (.ei)) cyclesEi st

/-- DI: cycles of rule R333, 46_system.md. -/
def cyclesDi : List Cycle :=
  [cOpcode (fun st => { st.setIME false with eiPending := false })]

/-- DI (R333). -/
def execDi (st : State) : Host.Outcome State Fault Refusal :=
  runInstr (encode (.di)) cyclesDi st

/-- LD A,F: cycles of rule R338, 46_system.md. -/
def cyclesLdAF : List Cycle :=
  [cOpcode (fun st => st.setA (pack st.flags))]

/-- LD A,F (R338). -/
def execLdAF (st : State) : Host.Outcome State Fault Refusal :=
  runInstr (encode (.ldAF)) cyclesLdAF st

/-- LD F,A: cycles of rule R339, 46_system.md. -/
def cyclesLdFA : List Cycle :=
  [cOpcode (fun st => st.setFlags (unpack st.regs.a))]

/-- LD F,A (R339). -/
def execLdFA (st : State) : Host.Outcome State Fault Refusal :=
  runInstr (encode (.ldFA)) cyclesLdFA st

/-- SWI: cycles of rule R340, 46_system.md. -/
def cyclesSwi : List Cycle :=
  c0 :: trapCycles Config.vecSwi

/-- SWI (R340). -/
def execSwi (st : State) : Host.Outcome State Fault Refusal :=
  runInstr (encode (.swi)) cyclesSwi st

/-- UND.ALIAS 0xD3: cycles of rule R343, 46_system.md. -/
def cyclesUndAliasD3 : List Cycle :=
  [c0]

/-- UND.ALIAS 0xD3 (R343). -/
def execUndAliasD3 (st : State) : Host.Outcome State Fault Refusal :=
  runInstr (encode (.undAliasD3)) cyclesUndAliasD3 st

/-- UND.ALIAS 0xDB: cycles of rule R343, 46_system.md. -/
def cyclesUndAliasDB : List Cycle :=
  [c0]

/-- UND.ALIAS 0xDB (R343). -/
def execUndAliasDB (st : State) : Host.Outcome State Fault Refusal :=
  runInstr (encode (.undAliasDB)) cyclesUndAliasDB st

/-- UND.ALIAS 0xE3: cycles of rule R343, 46_system.md. -/
def cyclesUndAliasE3 : List Cycle :=
  [c0]

/-- UND.ALIAS 0xE3 (R343). -/
def execUndAliasE3 (st : State) : Host.Outcome State Fault Refusal :=
  runInstr (encode (.undAliasE3)) cyclesUndAliasE3 st

/-- UND.ALIAS 0xEB: cycles of rule R343, 46_system.md. -/
def cyclesUndAliasEB : List Cycle :=
  [c0]

/-- UND.ALIAS 0xEB (R343). -/
def execUndAliasEB (st : State) : Host.Outcome State Fault Refusal :=
  runInstr (encode (.undAliasEB)) cyclesUndAliasEB st

/-- UND.LOCK 0xDD: cycles of rule R344, 46_system.md. -/
def cyclesUndLockDD : List Cycle :=
  [cOpcode (fun st => { st with locked := true })]

/-- UND.LOCK 0xDD (R344). -/
def execUndLockDD (st : State) : Host.Outcome State Fault Refusal :=
  runInstr (encode (.undLockDD)) cyclesUndLockDD st

/-- UND.LOCK 0xED: cycles of rule R344, 46_system.md. -/
def cyclesUndLockED : List Cycle :=
  [cOpcode (fun st => { st with locked := true })]

/-- UND.LOCK 0xED (R344). -/
def execUndLockED (st : State) : Host.Outcome State Fault Refusal :=
  runInstr (encode (.undLockED)) cyclesUndLockED st

/-- UND.LOCK 0xFD: cycles of rule R344, 46_system.md. -/
def cyclesUndLockFD : List Cycle :=
  [cOpcode (fun st => { st with locked := true })]

/-- UND.LOCK 0xFD (R344). -/
def execUndLockFD (st : State) : Host.Outcome State Fault Refusal :=
  runInstr (encode (.undLockFD)) cyclesUndLockFD st

/-- UND.TRAP t: cycles of rule R345, 46_system.md. -/
def cyclesUndTrap : List Cycle :=
  c0 :: trapCycles Config.vecUnd

/-- UND.TRAP t (R345). -/
def execUndTrap (t : Oct) (st : State) : Host.Outcome State Fault Refusal :=
  runInstr (encode (.undTrap t)) cyclesUndTrap st

end Sys2Proof.Machine
end

