-- ==== Sys2Proof/Machine/Sequencer.lean ====
section
/-! DEFINITION. The sequencer (40_sequencer.md): the cycle table of every row, the row selected by the opcode latches,
what one tick does, the bytes an instruction is fetched from, and the row PREFIX. -/

namespace Sys2Proof.Machine

/-- The cycle table of an instruction's row; it does not depend on operand bytes, which the cycles fetch
(40_sequencer.md R172). The table of the row PREFIX is its c0 and the c1 that fetches the prefixed opcode; from c1
on the table of the prefixed row takes its place (R171). -/
def cyclesOf : Instr → List Cycle
  | .nop => cyclesNop
  | .jr _ => cyclesJr
  | .di => cyclesDi
  | .ei => cyclesEi
  | .scf => cyclesScf
  | .ccf => cyclesCcf
  | .cpl => cyclesCpl
  | .swi => cyclesSwi
  | .ldPpNn pp _ => cyclesLdPpNn pp
  | .addHlPp pp => cyclesAddHlPp pp
  | .ldBcA => cyclesLdBcA
  | .ldABc => cyclesLdABc
  | .ldDeA => cyclesLdDeA
  | .ldADe => cyclesLdADe
  | .ldNnA _ => cyclesLdNnA
  | .ldANn _ => cyclesLdANn
  | .ldHldA _ => cyclesLdHldA
  | .ldAHld _ => cyclesLdAHld
  | .incPp pp => cyclesIncPp pp
  | .decPp pp => cyclesDecPp pp
  | .incR r => cyclesIncR r
  | .incM => cyclesIncM
  | .decR r => cyclesDecR r
  | .decM => cyclesDecM
  | .ldRN r _ => cyclesLdRN r
  | .ldMN _ => cyclesLdMN
  | .jrCc cc _ => cyclesJrCc cc
  | .ldRR dst src => cyclesLdRR dst src
  | .ldRM dst => cyclesLdRM dst
  | .ldMR src => cyclesLdMR src
  | .halt => cyclesHalt
  | .addAR r => cyclesAddAR r
  | .addAM => cyclesAddAM
  | .addAN _ => cyclesAddAN
  | .adcAR r => cyclesAdcAR r
  | .adcAM => cyclesAdcAM
  | .adcAN _ => cyclesAdcAN
  | .subAR r => cyclesSubAR r
  | .subAM => cyclesSubAM
  | .subAN _ => cyclesSubAN
  | .sbcAR r => cyclesSbcAR r
  | .sbcAM => cyclesSbcAM
  | .sbcAN _ => cyclesSbcAN
  | .andAR r => cyclesAndAR r
  | .andAM => cyclesAndAM
  | .andAN _ => cyclesAndAN
  | .xorAR r => cyclesXorAR r
  | .xorAM => cyclesXorAM
  | .xorAN _ => cyclesXorAN
  | .orAR r => cyclesOrAR r
  | .orAM => cyclesOrAM
  | .orAN _ => cyclesOrAN
  | .cpAR r => cyclesCpAR r
  | .cpAM => cyclesCpAM
  | .cpAN _ => cyclesCpAN
  | .retCc cc => cyclesRetCc cc
  | .popQq qq => cyclesPopQq qq
  | .popAf => cyclesPopAf
  | .ret => cyclesRet
  | .reti => cyclesReti
  | .jpHl => cyclesJpHl
  | .ldSpHl => cyclesLdSpHl
  | .jpCc cc _ => cyclesJpCc cc
  | .jp _ => cyclesJp
  | .prefixByte => [c0, cPrefixed id]
  | .undAliasD3 => cyclesUndAliasD3
  | .undAliasDB => cyclesUndAliasDB
  | .undAliasE3 => cyclesUndAliasE3
  | .undAliasEB => cyclesUndAliasEB
  | .ldFA => cyclesLdFA
  | .ldAF => cyclesLdAF
  | .callCc cc _ => cyclesCallCc cc
  | .pushQq qq => cyclesPushQq qq
  | .pushAf => cyclesPushAf
  | .call _ => cyclesCall
  | .undLockDD => cyclesUndLockDD
  | .undLockED => cyclesUndLockED
  | .undLockFD => cyclesUndLockFD
  | .undTrap _ => cyclesUndTrap
  | .rlcR r => cyclesRlcR r
  | .rlcM => cyclesRlcM
  | .rrcR r => cyclesRrcR r
  | .rrcM => cyclesRrcM
  | .rlR r => cyclesRlR r
  | .rlM => cyclesRlM
  | .rrR r => cyclesRrR r
  | .rrM => cyclesRrM
  | .slaR r => cyclesSlaR r
  | .slaM => cyclesSlaM
  | .sraR r => cyclesSraR r
  | .sraM => cyclesSraM
  | .swapR r => cyclesSwapR r
  | .swapM => cyclesSwapM
  | .srlR r => cyclesSrlR r
  | .srlM => cyclesSrlM
  | .bitR b r => cyclesBitR b r
  | .bitM b => cyclesBitM b
  | .resR b r => cyclesResR b r
  | .resM b => cyclesResM b
  | .setR b r => cyclesSetR b r
  | .setM b => cyclesSetM b

/-! ### Selecting the row (30_encoding.md R119, 40_sequencer.md R170, R171) -/

/-- The row whose cycle the next tick of the instruction in progress performs: at c0 the byte read at PC selects it in
the primary table; at c1 after the prefix byte the byte read at PC selects it in the prefixed table; later (`pfx`,
`ir`) alone selects it (10_state.md R53). -/
def State.currentRow (s : State) : Instr :=
  if s.seq.step = 0#3 then decodePrimary (s.busRead s.pc) 0#8 0#8
  else if s.seq.pfx then decodePrefixed s.seq.ir
  else if s.seq.ir = Config.prefixValue ∧ s.seq.step = 1#3 then decodePrefixed (s.busRead s.pc)
  else decodePrimary s.seq.ir 0#8 0#8

/-- The cycles still to be performed of the sequence in progress (40_sequencer.md R172). -/
def State.remaining (s : State) : List Cycle :=
  match s.seq.mode with
  | .boundary => []
  | .exec => (cyclesOf s.currentRow).drop s.seq.step.toNat
  | .service => serviceCycles.drop s.seq.step.toNat

/-! ### One tick (40_sequencer.md R163) -/

/-- The seven cases of a tick (40_sequencer.md R163). -/
inductive TickCase where
  /-- Case 1: take the reset. -/
  | reset
  /-- Case 2: locked tick. -/
  | locked
  /-- Case 3: held tick. -/
  | held
  /-- Case 4: halted tick. -/
  | halted
  /-- Case 5: start the service sequence. -/
  | startService
  /-- Case 6: start an instruction. -/
  | startInstr
  /-- Case 7: go on with the sequence in progress. -/
  | goOn
deriving DecidableEq, Repr

/-- Which case the next tick is: the first that applies (40_sequencer.md R163). -/
def State.tickCase (s : State) : TickCase :=
  if s.seq.mode = .boundary ∧ s.input.reset = true then .reset
  else if s.locked then .locked
  else if s.seq.mode = .boundary ∧ s.input.haltLine = true then .held
  else if s.seq.mode = .boundary ∧ s.halted = true then .halted
  else if s.seq.mode = .boundary ∧ s.irqDetected = true then .startService
  else if s.seq.mode = .boundary then .startInstr
  else .goOn

/-- One tick of the sequence in progress: its next cycle (40_sequencer.md R172). -/
def State.tickSequence (s : State) : Host.Outcome State Fault Refusal :=
  match s.remaining with
  | [] => .refused .noSuchCycle
  | c :: rest => .next (c.tick none rest.isEmpty s)

/-- One tick: exactly one bus cycle (40_sequencer.md R162, R163). A state with `mode` Exec or Service and `step` 0 is
between no two cycles of a sequence (10_state.md R59) and is refused (log 9). -/
def tick (s : State) : Host.Outcome State Fault Refusal :=
  match s.tickCase with
  | .reset => .next s.resetTick
  | .locked => .next s.idleTick
  | .held => .next s.idleTick
  | .halted => .next s.haltedTick
  | .startService => s.startService.tickSequence
  | .startInstr => s.startInstr.tickSequence
  | .goOn => if s.seq.step = 0#3 then .refused .noSuchCycle else s.tickSequence

/-! ### Whole sequences (log 1) -/

/-- Ticks until a boundary, at most `fuel` more: a sequence in progress runs to its last cycle
(40_sequencer.md R174). -/
def ticksToBoundary : Nat → State → Host.Outcome State Fault Refusal
  | 0, s => .next s
  | fuel + 1, s =>
    if s.seq.mode = .boundary then .next s
    else
      match tick s with
      | .next t => ticksToBoundary fuel t
      | .fault r => .fault r
      | .refused r => .refused r

/-- The whole service sequence (60_exceptions.md R420). -/
def State.service (s : State) : State := runTable [] serviceCycles s.startService

/-- Finishes the sequence in progress: its remaining cycles, instruction bytes read from the bus
(40_sequencer.md R172, R174). -/
def State.finish (s : State) : Host.Outcome State Fault Refusal :=
  if s.seq.step = 0#3 then .refused .noSuchCycle
  else
    match s.remaining with
    | [] => .refused .noSuchCycle
    | c :: rest => .next (runTable [] (c :: rest) s)

/-! ### Fetching an instruction (30_encoding.md R119, 20_memory.md R96) -/

/-- The bus side as the cycle of the `k`-th tick from now finds it (tick 0 is the next one), if the core itself writes
nothing in between: what other agents write in those ticks has arrived (20_memory.md R93, R94). -/
def State.memAt : Nat → State → Memory
  | 0, s => s.beginTick.mem
  | k + 1, s => State.memAt k s.beginTick.popInput

/-- The address of the `k`-th byte of the instruction about to be fetched: under the halt glitch byte 1 is read where
byte 0 was (40_sequencer.md R170). -/
def State.byteAddress (s : State) (k : Nat) : Word :=
  if s.haltBug ∧ 0 < k then s.pc + BitVec.ofNat 16 (k - 1) else s.pc + BitVec.ofNat 16 k

/-- The `k`-th byte of the instruction about to be fetched: an ordinary READ in the `k`-th tick (20_memory.md R96). -/
def State.instrByte (s : State) (k : Nat) : Byte := (s.memAt k).read (s.byteAddress k)

/-- The instruction that the bytes at PC decode to (30_encoding.md R119). -/
def State.fetched (s : State) : Instr := decodeAt (s.instrByte 0) (s.instrByte 1) (s.instrByte 2)

/-- PREFIX (R120): the byte 0xCB has been read in c0, and the instruction that executes is the one of the prefixed
table that the byte after it selects in c1 (30_encoding.md R119, R120; log 7). -/
def execPrefixByte (s : State) : Host.Outcome State Fault Refusal :=
  runInstr [Config.prefixValue, s.instrByte 1] (cyclesOf (decodePrefixed (s.instrByte 1))) s

end Sys2Proof.Machine
end

