-- ==== Sys2Proof/Machine/Dispatch.lean ====
section
/-! DEFINITION. One arm per constructor of `Instr`: each instruction's meaning. -/

namespace Sys2Proof.Machine

def exec (i : Instr) (s : State) : Host.Outcome State Fault Refusal :=
  match i with
  | .nop => Sys2Proof.Machine.execNop s
  | .jr off => Sys2Proof.Machine.execJr off s
  | .di => Sys2Proof.Machine.execDi s
  | .ei => Sys2Proof.Machine.execEi s
  | .scf => Sys2Proof.Machine.execScf s
  | .ccf => Sys2Proof.Machine.execCcf s
  | .cpl => Sys2Proof.Machine.execCpl s
  | .swi => Sys2Proof.Machine.execSwi s
  | .ldPpNn pp nn => Sys2Proof.Machine.execLdPpNn pp nn s
  | .addHlPp pp => Sys2Proof.Machine.execAddHlPp pp s
  | .ldBcA => Sys2Proof.Machine.execLdBcA s
  | .ldABc => Sys2Proof.Machine.execLdABc s
  | .ldDeA => Sys2Proof.Machine.execLdDeA s
  | .ldADe => Sys2Proof.Machine.execLdADe s
  | .ldNnA nn => Sys2Proof.Machine.execLdNnA nn s
  | .ldANn nn => Sys2Proof.Machine.execLdANn nn s
  | .ldHldA disp => Sys2Proof.Machine.execLdHldA disp s
  | .ldAHld disp => Sys2Proof.Machine.execLdAHld disp s
  | .incPp pp => Sys2Proof.Machine.execIncPp pp s
  | .decPp pp => Sys2Proof.Machine.execDecPp pp s
  | .incR r => Sys2Proof.Machine.execIncR r s
  | .incM => Sys2Proof.Machine.execIncM s
  | .decR r => Sys2Proof.Machine.execDecR r s
  | .decM => Sys2Proof.Machine.execDecM s
  | .ldRN r n => Sys2Proof.Machine.execLdRN r n s
  | .ldMN n => Sys2Proof.Machine.execLdMN n s
  | .jrCc cc off => Sys2Proof.Machine.execJrCc cc off s
  | .ldRR dst src => Sys2Proof.Machine.execLdRR dst src s
  | .ldRM dst => Sys2Proof.Machine.execLdRM dst s
  | .ldMR src => Sys2Proof.Machine.execLdMR src s
  | .halt => Sys2Proof.Machine.execHalt s
  | .addAR r => Sys2Proof.Machine.execAddAR r s
  | .addAM => Sys2Proof.Machine.execAddAM s
  | .addAN n => Sys2Proof.Machine.execAddAN n s
  | .adcAR r => Sys2Proof.Machine.execAdcAR r s
  | .adcAM => Sys2Proof.Machine.execAdcAM s
  | .adcAN n => Sys2Proof.Machine.execAdcAN n s
  | .subAR r => Sys2Proof.Machine.execSubAR r s
  | .subAM => Sys2Proof.Machine.execSubAM s
  | .subAN n => Sys2Proof.Machine.execSubAN n s
  | .sbcAR r => Sys2Proof.Machine.execSbcAR r s
  | .sbcAM => Sys2Proof.Machine.execSbcAM s
  | .sbcAN n => Sys2Proof.Machine.execSbcAN n s
  | .andAR r => Sys2Proof.Machine.execAndAR r s
  | .andAM => Sys2Proof.Machine.execAndAM s
  | .andAN n => Sys2Proof.Machine.execAndAN n s
  | .xorAR r => Sys2Proof.Machine.execXorAR r s
  | .xorAM => Sys2Proof.Machine.execXorAM s
  | .xorAN n => Sys2Proof.Machine.execXorAN n s
  | .orAR r => Sys2Proof.Machine.execOrAR r s
  | .orAM => Sys2Proof.Machine.execOrAM s
  | .orAN n => Sys2Proof.Machine.execOrAN n s
  | .cpAR r => Sys2Proof.Machine.execCpAR r s
  | .cpAM => Sys2Proof.Machine.execCpAM s
  | .cpAN n => Sys2Proof.Machine.execCpAN n s
  | .retCc cc => Sys2Proof.Machine.execRetCc cc s
  | .popQq qq => Sys2Proof.Machine.execPopQq qq s
  | .popAf => Sys2Proof.Machine.execPopAf s
  | .ret => Sys2Proof.Machine.execRet s
  | .reti => Sys2Proof.Machine.execReti s
  | .jpHl => Sys2Proof.Machine.execJpHl s
  | .ldSpHl => Sys2Proof.Machine.execLdSpHl s
  | .jpCc cc nn => Sys2Proof.Machine.execJpCc cc nn s
  | .jp nn => Sys2Proof.Machine.execJp nn s
  | .prefixByte => Sys2Proof.Machine.execPrefixByte s
  | .undAliasD3 => Sys2Proof.Machine.execUndAliasD3 s
  | .undAliasDB => Sys2Proof.Machine.execUndAliasDB s
  | .undAliasE3 => Sys2Proof.Machine.execUndAliasE3 s
  | .undAliasEB => Sys2Proof.Machine.execUndAliasEB s
  | .ldFA => Sys2Proof.Machine.execLdFA s
  | .ldAF => Sys2Proof.Machine.execLdAF s
  | .callCc cc nn => Sys2Proof.Machine.execCallCc cc nn s
  | .pushQq qq => Sys2Proof.Machine.execPushQq qq s
  | .pushAf => Sys2Proof.Machine.execPushAf s
  | .call nn => Sys2Proof.Machine.execCall nn s
  | .undLockDD => Sys2Proof.Machine.execUndLockDD s
  | .undLockED => Sys2Proof.Machine.execUndLockED s
  | .undLockFD => Sys2Proof.Machine.execUndLockFD s
  | .undTrap t => Sys2Proof.Machine.execUndTrap t s
  | .rlcR r => Sys2Proof.Machine.execRlcR r s
  | .rlcM => Sys2Proof.Machine.execRlcM s
  | .rrcR r => Sys2Proof.Machine.execRrcR r s
  | .rrcM => Sys2Proof.Machine.execRrcM s
  | .rlR r => Sys2Proof.Machine.execRlR r s
  | .rlM => Sys2Proof.Machine.execRlM s
  | .rrR r => Sys2Proof.Machine.execRrR r s
  | .rrM => Sys2Proof.Machine.execRrM s
  | .slaR r => Sys2Proof.Machine.execSlaR r s
  | .slaM => Sys2Proof.Machine.execSlaM s
  | .sraR r => Sys2Proof.Machine.execSraR r s
  | .sraM => Sys2Proof.Machine.execSraM s
  | .swapR r => Sys2Proof.Machine.execSwapR r s
  | .swapM => Sys2Proof.Machine.execSwapM s
  | .srlR r => Sys2Proof.Machine.execSrlR r s
  | .srlM => Sys2Proof.Machine.execSrlM s
  | .bitR b r => Sys2Proof.Machine.execBitR b r s
  | .bitM b => Sys2Proof.Machine.execBitM b s
  | .resR b r => Sys2Proof.Machine.execResR b r s
  | .resM b => Sys2Proof.Machine.execResM b s
  | .setR b r => Sys2Proof.Machine.execSetR b r s
  | .setM b => Sys2Proof.Machine.execSetM b s

end Sys2Proof.Machine
end

