-- ==== Sys2Proof/Machine/Step.lean ====
section
/-! DEFINITION. The host's step: one whole sequence (log 1), its cases those of 40_sequencer.md R163. -/

namespace Sys2Proof.Machine

/-- One step: a reset, locked, held or halted tick; a whole service sequence; a whole instruction, fetched at PC,
decoded and executed; or, in the middle of a sequence, the rest of it (40_sequencer.md R163, R174; log 1). -/
def step (s : State) : Host.Outcome State Fault Refusal :=
  match s.tickCase with
  | .reset => .next s.resetTick
  | .locked => .next s.idleTick
  | .held => .next s.idleTick
  | .halted => .next s.haltedTick
  | .startService => .next s.service
  | .startInstr => exec s.fetched s
  | .goOn => s.finish

/-- The samples with nothing in them that keeps the next `k` ticks from fetching what memory holds: RESET and
HALT_LINE 0, no other agent's write. -/
def calmInputs : Nat → List TickIn → List TickIn
  | 0, ins => ins
  | _, [] => []
  | k + 1, i :: ins => { i with reset := false, haltLine := false, others := [] } :: calmInputs k ins

/-- `s` with an instruction's bytes stored at PC and at the two addresses after it, at a boundary at which the next
tick fetches: not locked, not halted, no interrupt detected, no halt glitch (log 11). -/
def State.withFetchWord (s : State) (nbits w : Nat) : State :=
  let bytes := tableBytes nbits w
  { s with
    mem := ((s.mem.write s.pc (bytes.getD 0 0#8)).write (s.pc + 1#16) (bytes.getD 1 0#8)).write (s.pc + 2#16)
      (bytes.getD 2 0#8)
    inputs := calmInputs 3 s.inputs
    seq := Sequencer.rest
    halted := false
    locked := false
    haltBug := false
    irqDetected := false }

end Sys2Proof.Machine
end

