-- ==== Sys2Proof/Safety.lean ====
section
/-! DEFINITION. The terms statements use: the invariants of 10_state.md R59, the timing table of 40_sequencer.md R190,
and what an instruction that ran leaves: its bus cycles, the poll point, the bytes of memory it kept. -/

namespace Sys2Proof.Machine

/-! ### Invariants (10_state.md R59) -/

/-- R59 (a) to (g), what holds after every tick from reset on. -/
abbrev State.R59 (s : State) : Prop :=
  (s.seq.mode = .boundary → s.seq = Sequencer.rest) ∧
  (s.locked = true → s.seq.mode = .boundary) ∧
  (s.halted = true → s.seq.mode = .boundary ∧ s.locked = false ∧ s.irqDetected = false ∧ s.haltBug = false) ∧
  (s.irqDetected = true → s.seq.mode = .boundary) ∧
  (s.seq.mode = .service → s.ime = false ∧ s.seq.step.toNat ≤ 4) ∧
  (s.seq.mode = .exec → 1 ≤ s.seq.step.toNat ∧ s.seq.step.toNat ≤ 5) ∧
  s.eiPending = false

/-- `pfx` is set in c1 (40_sequencer.md R171), so an instruction in progress with pfx = 1 stands at c2 or later
(DEDUCED, log 9). -/
abbrev State.PrefixSeen (s : State) : Prop :=
  s.seq.mode = .exec → s.seq.pfx = true → 2 ≤ s.seq.step.toNat

/-- The invariant of the machine: R59, the place of `pfx`, and the canonical form of memory. -/
abbrev State.Inv (s : State) : Prop := s.R59 ∧ s.PrefixSeen ∧ s.mem.wf = true

/-! ### The timing table (40_sequencer.md R190) -/

/-- Number of bus cycles of an instruction, executed with the flags `f` (40_sequencer.md R190). The row PREFIX has
none of its own: it is counted with the prefixed instruction that follows it, and stands here at its one. -/
def ticksOf (f : Flags) : Instr → Nat
  | .nop => 1
  | .jr _ => 3
  | .di => 1
  | .ei => 1
  | .scf => 1
  | .ccf => 1
  | .cpl => 1
  | .swi => 4
  | .ldPpNn _ _ => 3
  | .addHlPp _ => 2
  | .ldBcA => 2
  | .ldABc => 2
  | .ldDeA => 2
  | .ldADe => 2
  | .ldNnA _ => 4
  | .ldANn _ => 4
  | .ldHldA _ => 4
  | .ldAHld _ => 4
  | .incPp _ => 2
  | .decPp _ => 2
  | .incR _ => 1
  | .incM => 3
  | .decR _ => 1
  | .decM => 3
  | .ldRN _ _ => 2
  | .ldMN _ => 3
  | .jrCc cc _ => if condHolds cc f then 3 else 2
  | .ldRR _ _ => 1
  | .ldRM _ => 2
  | .ldMR _ => 2
  | .halt => 1
  | .addAR _ => 1
  | .addAM => 2
  | .addAN _ => 2
  | .adcAR _ => 1
  | .adcAM => 2
  | .adcAN _ => 2
  | .subAR _ => 1
  | .subAM => 2
  | .subAN _ => 2
  | .sbcAR _ => 1
  | .sbcAM => 2
  | .sbcAN _ => 2
  | .andAR _ => 1
  | .andAM => 2
  | .andAN _ => 2
  | .xorAR _ => 1
  | .xorAM => 2
  | .xorAN _ => 2
  | .orAR _ => 1
  | .orAM => 2
  | .orAN _ => 2
  | .cpAR _ => 1
  | .cpAM => 2
  | .cpAN _ => 2
  | .retCc cc => if condHolds cc f then 5 else 2
  | .popQq _ => 3
  | .popAf => 3
  | .ret => 4
  | .reti => 4
  | .jpHl => 1
  | .ldSpHl => 2
  | .jpCc cc _ => if condHolds cc f then 4 else 3
  | .jp _ => 4
  | .prefixByte => 1
  | .undAliasD3 => 1
  | .undAliasDB => 1
  | .undAliasE3 => 1
  | .undAliasEB => 1
  | .ldFA => 1
  | .ldAF => 1
  | .callCc cc _ => if condHolds cc f then 6 else 3
  | .pushQq _ => 4
  | .pushAf => 4
  | .call _ => 6
  | .undLockDD => 1
  | .undLockED => 1
  | .undLockFD => 1
  | .undTrap _ => 4
  | .rlcR _ => 2
  | .rlcM => 4
  | .rrcR _ => 2
  | .rrcM => 4
  | .rlR _ => 2
  | .rlM => 4
  | .rrR _ => 2
  | .rrM => 4
  | .slaR _ => 2
  | .slaM => 4
  | .sraR _ => 2
  | .sraM => 4
  | .swapR _ => 2
  | .swapM => 4
  | .srlR _ => 2
  | .srlM => 4
  | .bitR _ _ => 2
  | .bitM _ => 3
  | .resR _ _ => 2
  | .resM _ => 4
  | .setR _ _ => 2
  | .setM _ => 4

/-- The kind of a bus cycle, BUS_OP (20_memory.md R61). -/
inductive CycleKind where
  | read | write | idle
deriving DecidableEq, Repr

/-- The kind of a bus cycle. -/
def BusCycle.kind : BusCycle → CycleKind
  | .read _ _ => .read
  | .write _ _ => .write
  | .idle _ => .idle

/-- The column "pattern" of the timing table: the kinds of an instruction's bus cycles in order, with the flags `f`
(40_sequencer.md R190). The row PREFIX stands here at its one cycle. -/
def patternOf (f : Flags) : Instr → List CycleKind
  | .nop => [.read]
  | .jr _ => [.read, .read, .idle]
  | .di => [.read]
  | .ei => [.read]
  | .scf => [.read]
  | .ccf => [.read]
  | .cpl => [.read]
  | .swi => [.read, .idle, .write, .write]
  | .ldPpNn _ _ => [.read, .read, .read]
  | .addHlPp _ => [.read, .idle]
  | .ldBcA => [.read, .write]
  | .ldABc => [.read, .read]
  | .ldDeA => [.read, .write]
  | .ldADe => [.read, .read]
  | .ldNnA _ => [.read, .read, .read, .write]
  | .ldANn _ => [.read, .read, .read, .read]
  | .ldHldA _ => [.read, .read, .idle, .write]
  | .ldAHld _ => [.read, .read, .idle, .read]
  | .incPp _ => [.read, .idle]
  | .decPp _ => [.read, .idle]
  | .incR _ => [.read]
  | .incM => [.read, .read, .write]
  | .decR _ => [.read]
  | .decM => [.read, .read, .write]
  | .ldRN _ _ => [.read, .read]
  | .ldMN _ => [.read, .read, .write]
  | .jrCc cc _ => if condHolds cc f then [.read, .read, .idle] else [.read, .read]
  | .ldRR _ _ => [.read]
  | .ldRM _ => [.read, .read]
  | .ldMR _ => [.read, .write]
  | .halt => [.read]
  | .addAR _ => [.read]
  | .addAM => [.read, .read]
  | .addAN _ => [.read, .read]
  | .adcAR _ => [.read]
  | .adcAM => [.read, .read]
  | .adcAN _ => [.read, .read]
  | .subAR _ => [.read]
  | .subAM => [.read, .read]
  | .subAN _ => [.read, .read]
  | .sbcAR _ => [.read]
  | .sbcAM => [.read, .read]
  | .sbcAN _ => [.read, .read]
  | .andAR _ => [.read]
  | .andAM => [.read, .read]
  | .andAN _ => [.read, .read]
  | .xorAR _ => [.read]
  | .xorAM => [.read, .read]
  | .xorAN _ => [.read, .read]
  | .orAR _ => [.read]
  | .orAM => [.read, .read]
  | .orAN _ => [.read, .read]
  | .cpAR _ => [.read]
  | .cpAM => [.read, .read]
  | .cpAN _ => [.read, .read]
  | .retCc cc => if condHolds cc f then [.read, .idle, .read, .read, .idle] else [.read, .idle]
  | .popQq _ => [.read, .read, .read]
  | .popAf => [.read, .read, .read]
  | .ret => [.read, .read, .read, .idle]
  | .reti => [.read, .read, .read, .idle]
  | .jpHl => [.read]
  | .ldSpHl => [.read, .idle]
  | .jpCc cc _ => if condHolds cc f then [.read, .read, .read, .idle] else [.read, .read, .read]
  | .jp _ => [.read, .read, .read, .idle]
  | .prefixByte => [.read]
  | .undAliasD3 => [.read]
  | .undAliasDB => [.read]
  | .undAliasE3 => [.read]
  | .undAliasEB => [.read]
  | .ldFA => [.read]
  | .ldAF => [.read]
  | .callCc cc _ => if condHolds cc f then [.read, .read, .read, .idle, .write, .write] else [.read, .read, .read]
  | .pushQq _ => [.read, .idle, .write, .write]
  | .pushAf => [.read, .idle, .write, .write]
  | .call _ => [.read, .read, .read, .idle, .write, .write]
  | .undLockDD => [.read]
  | .undLockED => [.read]
  | .undLockFD => [.read]
  | .undTrap _ => [.read, .idle, .write, .write]
  | .rlcR _ => [.read, .read]
  | .rlcM => [.read, .read, .read, .write]
  | .rrcR _ => [.read, .read]
  | .rrcM => [.read, .read, .read, .write]
  | .rlR _ => [.read, .read]
  | .rlM => [.read, .read, .read, .write]
  | .rrR _ => [.read, .read]
  | .rrM => [.read, .read, .read, .write]
  | .slaR _ => [.read, .read]
  | .slaM => [.read, .read, .read, .write]
  | .sraR _ => [.read, .read]
  | .sraM => [.read, .read, .read, .write]
  | .swapR _ => [.read, .read]
  | .swapM => [.read, .read, .read, .write]
  | .srlR _ => [.read, .read]
  | .srlM => [.read, .read, .read, .write]
  | .bitR _ _ => [.read, .read]
  | .bitM _ => [.read, .read, .read]
  | .resR _ _ => [.read, .read]
  | .resM _ => [.read, .read, .read, .write]
  | .setR _ _ => [.read, .read]
  | .setM _ => [.read, .read, .read, .write]

/-- The flags an instruction writes: the table of 10_state.md R45, true where it has no dash. The row PREFIX runs some
prefixed instruction, so no flag is promised for it. -/
def flagsWritten : Instr → Flags
  | .nop => ⟨false, false, false, false, false⟩
  | .jr _ => ⟨false, false, false, false, false⟩
  | .di => ⟨false, false, false, false, false⟩
  | .ei => ⟨false, false, false, false, false⟩
  | .scf => ⟨false, false, false, false, true⟩
  | .ccf => ⟨false, false, false, false, true⟩
  | .cpl => ⟨false, false, false, false, false⟩
  | .swi => ⟨false, false, false, false, false⟩
  | .ldPpNn _ _ => ⟨false, false, false, false, false⟩
  | .addHlPp _ => ⟨false, false, true, false, true⟩
  | .ldBcA => ⟨false, false, false, false, false⟩
  | .ldABc => ⟨false, false, false, false, false⟩
  | .ldDeA => ⟨false, false, false, false, false⟩
  | .ldADe => ⟨false, false, false, false, false⟩
  | .ldNnA _ => ⟨false, false, false, false, false⟩
  | .ldANn _ => ⟨false, false, false, false, false⟩
  | .ldHldA _ => ⟨false, false, false, false, false⟩
  | .ldAHld _ => ⟨false, false, false, false, false⟩
  | .incPp _ => ⟨false, false, false, false, false⟩
  | .decPp _ => ⟨false, false, false, false, false⟩
  | .incR _ => ⟨true, true, true, true, false⟩
  | .incM => ⟨true, true, true, true, false⟩
  | .decR _ => ⟨true, true, true, true, false⟩
  | .decM => ⟨true, true, true, true, false⟩
  | .ldRN _ _ => ⟨false, false, false, false, false⟩
  | .ldMN _ => ⟨false, false, false, false, false⟩
  | .jrCc _ _ => ⟨false, false, false, false, false⟩
  | .ldRR _ _ => ⟨false, false, false, false, false⟩
  | .ldRM _ => ⟨false, false, false, false, false⟩
  | .ldMR _ => ⟨false, false, false, false, false⟩
  | .halt => ⟨false, false, false, false, false⟩
  | .addAR _ => ⟨true, true, true, true, true⟩
  | .addAM => ⟨true, true, true, true, true⟩
  | .addAN _ => ⟨true, true, true, true, true⟩
  | .adcAR _ => ⟨true, true, true, true, true⟩
  | .adcAM => ⟨true, true, true, true, true⟩
  | .adcAN _ => ⟨true, true, true, true, true⟩
  | .subAR _ => ⟨true, true, true, true, true⟩
  | .subAM => ⟨true, true, true, true, true⟩
  | .subAN _ => ⟨true, true, true, true, true⟩
  | .sbcAR _ => ⟨true, true, true, true, true⟩
  | .sbcAM => ⟨true, true, true, true, true⟩
  | .sbcAN _ => ⟨true, true, true, true, true⟩
  | .andAR _ => ⟨true, true, true, true, true⟩
  | .andAM => ⟨true, true, true, true, true⟩
  | .andAN _ => ⟨true, true, true, true, true⟩
  | .xorAR _ => ⟨true, true, true, true, true⟩
  | .xorAM => ⟨true, true, true, true, true⟩
  | .xorAN _ => ⟨true, true, true, true, true⟩
  | .orAR _ => ⟨true, true, true, true, true⟩
  | .orAM => ⟨true, true, true, true, true⟩
  | .orAN _ => ⟨true, true, true, true, true⟩
  | .cpAR _ => ⟨true, true, true, true, true⟩
  | .cpAM => ⟨true, true, true, true, true⟩
  | .cpAN _ => ⟨true, true, true, true, true⟩
  | .retCc _ => ⟨false, false, false, false, false⟩
  | .popQq _ => ⟨false, false, false, false, false⟩
  | .popAf => ⟨true, true, true, true, true⟩
  | .ret => ⟨false, false, false, false, false⟩
  | .reti => ⟨false, false, false, false, false⟩
  | .jpHl => ⟨false, false, false, false, false⟩
  | .ldSpHl => ⟨false, false, false, false, false⟩
  | .jpCc _ _ => ⟨false, false, false, false, false⟩
  | .jp _ => ⟨false, false, false, false, false⟩
  | .prefixByte => ⟨true, true, true, true, true⟩
  | .undAliasD3 => ⟨false, false, false, false, false⟩
  | .undAliasDB => ⟨false, false, false, false, false⟩
  | .undAliasE3 => ⟨false, false, false, false, false⟩
  | .undAliasEB => ⟨false, false, false, false, false⟩
  | .ldFA => ⟨true, true, true, true, true⟩
  | .ldAF => ⟨false, false, false, false, false⟩
  | .callCc _ _ => ⟨false, false, false, false, false⟩
  | .pushQq _ => ⟨false, false, false, false, false⟩
  | .pushAf => ⟨false, false, false, false, false⟩
  | .call _ => ⟨false, false, false, false, false⟩
  | .undLockDD => ⟨false, false, false, false, false⟩
  | .undLockED => ⟨false, false, false, false, false⟩
  | .undLockFD => ⟨false, false, false, false, false⟩
  | .undTrap _ => ⟨false, false, false, false, false⟩
  | .rlcR _ => ⟨true, true, true, true, true⟩
  | .rlcM => ⟨true, true, true, true, true⟩
  | .rrcR _ => ⟨true, true, true, true, true⟩
  | .rrcM => ⟨true, true, true, true, true⟩
  | .rlR _ => ⟨true, true, true, true, true⟩
  | .rlM => ⟨true, true, true, true, true⟩
  | .rrR _ => ⟨true, true, true, true, true⟩
  | .rrM => ⟨true, true, true, true, true⟩
  | .slaR _ => ⟨true, true, true, true, true⟩
  | .slaM => ⟨true, true, true, true, true⟩
  | .sraR _ => ⟨true, true, true, true, true⟩
  | .sraM => ⟨true, true, true, true, true⟩
  | .swapR _ => ⟨true, true, true, true, true⟩
  | .swapM => ⟨true, true, true, true, true⟩
  | .srlR _ => ⟨true, true, true, true, true⟩
  | .srlM => ⟨true, true, true, true, true⟩
  | .bitR _ _ => ⟨false, true, false, false, false⟩
  | .bitM _ => ⟨false, true, false, false, false⟩
  | .resR _ _ => ⟨false, false, false, false, false⟩
  | .resM _ => ⟨false, false, false, false, false⟩
  | .setR _ _ => ⟨false, false, false, false, false⟩
  | .setM _ => ⟨false, false, false, false, false⟩

/-! ### The operation families as functions of the operation (30_encoding.md R116) -/

/-- The row `op A,r`. -/
def aluOnReg (r : Reg) : AluOp → Instr
  | .add => .addAR r
  | .adc => .adcAR r
  | .sub => .subAR r
  | .sbc => .sbcAR r
  | .and => .andAR r
  | .xor => .xorAR r
  | .or => .orAR r
  | .cp => .cpAR r

/-- The row `op A,(HL)`. -/
def aluOnMem : AluOp → Instr
  | .add => .addAM
  | .adc => .adcAM
  | .sub => .subAM
  | .sbc => .sbcAM
  | .and => .andAM
  | .xor => .xorAM
  | .or => .orAM
  | .cp => .cpAM

/-- The row `op A,n`. -/
def aluOnImm (n : Byte) : AluOp → Instr
  | .add => .addAN n
  | .adc => .adcAN n
  | .sub => .subAN n
  | .sbc => .sbcAN n
  | .and => .andAN n
  | .xor => .xorAN n
  | .or => .orAN n
  | .cp => .cpAN n

/-- The row `op r` of the rotate and shift group. -/
def shiftOnReg (r : Reg) : ShiftOp → Instr
  | .rlc => .rlcR r
  | .rrc => .rrcR r
  | .rl => .rlR r
  | .rr => .rrR r
  | .sla => .slaR r
  | .sra => .sraR r
  | .swap => .swapR r
  | .srl => .srlR r

/-- The row `op (HL)` of the rotate and shift group. -/
def shiftOnMem : ShiftOp → Instr
  | .rlc => .rlcM
  | .rrc => .rrcM
  | .rl => .rlM
  | .rr => .rrM
  | .sla => .slaM
  | .sra => .sraM
  | .swap => .swapM
  | .srl => .srlM

/-! ### What a completed instruction leaves -/

/-- No other agent writes in any tick to come (20_memory.md R94): what the bus side holds is changed by the core
alone. -/
abbrev State.Undisturbed (s : State) : Prop := ∀ i ∈ s.inputs, i.others = []

/-- The sample of the `k`-th tick from now (tick 0 is the next one). -/
def State.sampleAt (s : State) (k : Nat) : TickIn := (s.inputs.drop k).headD TickIn.quiet

/-- PC after an instruction of `n` bytes that transfers no control: `n` further, or one less under the halt glitch
(10_state.md R42). -/
def State.pcAfter (s : State) (n : Nat) : Word := s.pc + BitVec.ofNat 16 (if s.haltBug then n - 1 else n)

/-- The READ cycles in which the bytes from the `k`-th on of an instruction are fetched (40_sequencer.md R170). -/
def State.fetches (s : State) : Nat → List Byte → List BusCycle
  | _, [] => []
  | k, b :: bs => .read (s.byteAddress k) b :: s.fetches (k + 1) bs

/-- `t` stands at a boundary (40_sequencer.md R175) after exactly the bus cycles `cs`, in this order, one tick each
(20_memory.md R85). -/
def Ran (s t : State) (cs : List BusCycle) : Prop :=
  t.seq = Sequencer.rest ∧ t.haltBug = false ∧ t.log = cs.reverse ++ s.log ∧ t.inputs = s.inputs.drop cs.length

/-- The poll point of an instruction of `n` ticks, with IME and ei_pending as its own cycles left them
(40_sequencer.md R176); none follows if the core is locked (R175). -/
def PolledWith (s t : State) (n : Nat) (ime ei : Bool) : Prop :=
  t.halted = s.halted ∧ t.locked = s.locked ∧
  if s.locked then t.ime = ime ∧ t.eiPending = ei ∧ t.irqDetected = s.irqDetected
  else t.irqDetected = (s.irqDetected || (ime && (s.sampleAt (n - 1)).irqPending)) ∧
    t.ime = (ime || ei) ∧ t.eiPending = false

/-- The poll point of an instruction that does not write IME or ei_pending itself. -/
def Polled (s t : State) (n : Nat) : Prop := PolledWith s t n s.ime s.eiPending

/-- The instruction `i` ran from `s` to `t`: it fetched its own bytes, performed the cycles `more` after them, and
polled. -/
def RanInstr (s t : State) (i : Instr) (more : List BusCycle) : Prop :=
  Ran s t (s.fetches 0 (encode i) ++ more) ∧ Polled s t ((encode i).length + more.length)

/-- Every byte of memory reads as before. -/
def MemKept (s t : State) : Prop := ∀ a, t.mem.read a = s.mem.read a

/-- Every byte of memory outside the addresses `l` reads as before. -/
def MemKeptBut (s t : State) (l : List Word) : Prop := ∀ a, a ∉ l → t.mem.read a = s.mem.read a

/-- Every general register but `r` reads as before. -/
def RegsKeptBut (s t : State) (r : Reg) : Prop := ∀ q, q ≠ r → t.readReg q = s.readReg q

/-- Every general register reads as before. -/
def RegsKept (s t : State) : Prop := ∀ q, t.readReg q = s.readReg q

/-- The two bytes below SP hold `v`, high byte at the higher address, SP is two less, and nothing else of memory
changed (20_memory.md R80). -/
def Pushed (s t : State) (v : Word) : Prop :=
  t.sp = s.sp - 2#16 ∧ t.mem.read (s.sp - 1#16) = hiByte v ∧ t.mem.read (s.sp - 2#16) = loByte v ∧
  MemKeptBut s t [s.sp - 1#16, s.sp - 2#16]

/-- The WRITE cycles of a push of `v`: high byte first (20_memory.md R80). -/
def State.pushes (s : State) (v : Word) : List BusCycle :=
  [.write (s.sp - 1#16) (hiByte v), .write (s.sp - 2#16) (loByte v)]

/-- The word on top of the stack: low byte at SP (20_memory.md R80). -/
def State.top (s : State) : Word := joinBytes (s.mem.read (s.sp + 1#16)) (s.mem.read s.sp)

/-- The READ cycles of a pop: low byte first (20_memory.md R80). -/
def State.pops (s : State) : List BusCycle :=
  [.read s.sp (s.mem.read s.sp), .read (s.sp + 1#16) (s.mem.read (s.sp + 1#16))]

/-- The next tick starts an instruction: the sixth case of 40_sequencer.md R163. -/
abbrev State.Starts (s : State) : Prop :=
  s.seq.mode = .boundary ∧ (s.sampleAt 0).reset = false ∧ s.locked = false ∧ (s.sampleAt 0).haltLine = false ∧
  s.halted = false ∧ s.irqDetected = false

/-- The state a next outcome holds. -/
def nextState : Host.Outcome State Fault Refusal → Option State
  | .next s => some s
  | .fault _ => none
  | .refused _ => none

end Sys2Proof.Machine
end

