-- ==== Sys2Proof/Certificates/Slice0/Obligations.lean ====
section
/-! DEFINITION. The statements for the provers, one definition each. -/

open Sys2Proof Sys2Proof.Machine

/-- Decoding the bytes of any well-formed instruction gives that instruction back. From 30_encoding.md R110,
30_encoding.md R117, 30_encoding.md R119, 30_encoding.md R121, 30_encoding.md R122. -/
def Obligations.DecodeInvertsEncode : Prop :=
  ∀ (i : Instr) (rest : List Byte), WellFormed i = true → decode (encode i ++ rest) = .ok (i, rest)

/-- Any three bytes begin exactly one well-formed instruction, and its encoding is those bytes. From 30_encoding.md
R118, 30_encoding.md R120, 30_encoding.md R123, 30_encoding.md R124. -/
def Obligations.EncodeInvertsDecode : Prop :=
  ∀ (b0 b1 b2 : Byte) (rest : List Byte), ∃ i left,
    decode (b0 :: b1 :: b2 :: rest) = .ok (i, left) ∧ WellFormed i = true ∧ encode i ++ left = b0 :: b1 :: b2 :: rest

/-- Some byte strings written out in the spec decode to the instructions it gives for them. From 30_encoding.md
R121, 30_encoding.md R122, 41_load8.md R211, 47_prefixed.md R371. -/
def Obligations.SpecWordsDecode : Prop :=
  decode [0x78#8] = .ok (.ldRR .a .b, []) ∧
  decode [0x3A#8, 0xFD#8] = .ok (.ldAHld 0xFD#8, []) ∧
  decode [0xCE#8, 0xC6#8] = .ok (.adcAN 0xC6#8, []) ∧
  decode [0x31#8, 0xFE#8, 0xFF#8] = .ok (.ldPpNn .sp 0xFFFE#16, []) ∧
  decode [0x09#8] = .ok (.addHlPp .bc, []) ∧
  decode [0xCD#8, 0x10#8, 0x00#8] = .ok (.call 0x0010#16, []) ∧
  decode [0x38#8] = .ok (.swi, []) ∧
  decode [0xD3#8] = .ok (.undAliasD3, []) ∧
  decode [0xCB#8, 0xCB#8] = .ok (.setR .o1 .e, [])

/-- Exactly one row of each opcode table fits every byte, and it is the decoder's row. From 30_encoding.md R118,
30_encoding.md R119, 30_encoding.md R127. -/
def Obligations.OneTableRowPerByte : Prop :=
  ∀ b : Byte,
    (primaryRows.filter (fun r => r.fits b)).map (fun r => r.mnemonic) = [(decodePrimary b 0#8 0#8).mnemonic] ∧
    (prefixedRows.filter (fun r => r.fits b)).map (fun r => r.mnemonic) = [(decodePrefixed b).mnemonic]

/-- At a boundary where an instruction starts, step is exec of the instruction the fetched bytes decode to. From
40_sequencer.md R163, 40_sequencer.md R169, 30_encoding.md R119. The model's own: the sample list (logs 2, 3),
the size of a step (log 1), bytes given to exec (log 8). -/
def Obligations.StepRunsFetchedInstruction : Prop :=
  ∀ (s : State) (i : Instr) (left : List Byte), s.Starts →
    decode [s.instrByte 0, s.instrByte 1, s.instrByte 2] = .ok (i, left) → step s = exec i s

/-- The fetched bytes are the bytes of memory at PC, PC+1, ..., and under the halt glitch byte 1 is read where byte
0 was. From 20_memory.md R96, 40_sequencer.md R170, 10_state.md R40. R96 is marked in the spec as its own
inference from other rules. The model's own: the sample list (logs 2, 3). -/
def Obligations.FetchReadsMemoryAtPC : Prop :=
  ∀ (s : State) (k : Nat), s.Undisturbed →
    (s.haltBug = false → s.instrByte k = s.mem.read (s.pc + BitVec.ofNat 16 k)) ∧
    (s.haltBug = true → s.instrByte 0 = s.mem.read s.pc ∧
      s.instrByte (k + 1) = s.mem.read (s.pc + BitVec.ofNat 16 k))

/-- An instruction placed at PC by withFetchWord is the one the very next step runs. From 30_encoding.md R119,
40_sequencer.md R163. The model's own: the canonical memory (log 4), the size of a step (log 1), bytes given to
exec (log 8). -/
def Obligations.PlacedWordRunsNext : Prop :=
  ∀ (s : State) (nbits w : Nat) (i : Instr), s.mem.wf = true → decodeTableWord nbits w = some i →
    step (s.withFetchWord nbits w) = exec i (s.withFetchWord nbits w)

/-- One step is exactly the ticks up to the next boundary, from every state that meets the invariant. From
40_sequencer.md R163, 40_sequencer.md R172, 40_sequencer.md R174, 00_scope.md R11. The model's own: the
canonical memory (log 4), the size of a step (log 1), the clause on pfx (log 9). -/
def Obligations.StepIsTicksToBoundary : Prop :=
  ∀ s : State, s.Inv →
    step s = match tick s with
      | .next t => ticksToBoundary 5 t
      | .fault r => .fault r
      | .refused r => .refused r

/-- Every tick keeps the invariants of R59 and the canonical form of memory. From 10_state.md R59, 40_sequencer.md
R163. R59 is marked in the spec as its own inference from other rules. The model's own: the canonical memory
(log 4), the clause on pfx (log 9). -/
def Obligations.TickKeepsInvariant : Prop :=
  ∀ s t : State, s.Inv → tick s = .next t → t.Inv

/-- Every step keeps the invariant and ends at a canonical boundary. From 10_state.md R59, 40_sequencer.md R174,
40_sequencer.md R175. R59 is marked in the spec as its own inference from other rules. The model's own: the
canonical memory (log 4), the size of a step (log 1), the clause on pfx (log 9). -/
def Obligations.StepKeepsInvariant : Prop :=
  ∀ s t : State, s.Inv → step s = .next t → t.Inv ∧ t.seq = Sequencer.rest

/-- The reset state meets the invariant. From 10_state.md R59, 70_reset_and_hazards.md R471. R59 is marked in the
spec as its own inference from other rules. The model's own: the canonical memory (log 4), the clause on pfx
(log 9). -/
def Obligations.ResetMeetsInvariant : Prop :=
  State.reset.Inv

/-- After the reset tick every item of state has the value the reset table gives. From 70_reset_and_hazards.md R470,
70_reset_and_hazards.md R462, 40_sequencer.md R164. The model's own: the sample list (logs 2, 3), the size of a
step (log 1). -/
def Obligations.ResetValues : Prop :=
  ∀ s : State, s.seq.mode = .boundary → (s.sampleAt 0).reset = true →
    ∃ t, tick s = .next t ∧ step s = .next t ∧ (∀ r, t.readReg r = 0x00#8) ∧
      t.flags = ⟨false, false, false, false, false⟩ ∧ pack t.flags = 0x20#8 ∧ t.pc = 0x0000#16 ∧ t.sp = 0x0000#16 ∧
      t.ime = false ∧ t.seq = ⟨.boundary, 0#3, 0x00#8, false, 0x00#8, 0x00#8⟩ ∧ t.halted = false ∧ t.locked = false ∧
      t.eiPending = false ∧ t.haltBug = false ∧ t.irqDetected = false

/-- One reset tick from any boundary state gives the core state of State.reset, one idle cycle, and memory
untouched. From 70_reset_and_hazards.md R462, 70_reset_and_hazards.md R470, 40_sequencer.md R164. The model's
own: the cycle log (log 5), the sample list (logs 2, 3), the size of a step (log 1). -/
def Obligations.ResetStateIsTheResetTicksResult : Prop :=
  ∀ s : State, s.seq.mode = .boundary → (s.sampleAt 0).reset = true →
    ∃ t, step s = .next t ∧
      t = { State.reset with mem := s.mem.writeAll (s.sampleAt 0).others, inputs := s.inputs.drop 1, log := .idle none :: s.log }

/-- A tick performs exactly one bus cycle and uses up exactly one sample. From 40_sequencer.md R162, 20_memory.md
R61. The model's own: the cycle log (log 5), the sample list (logs 2, 3). -/
def Obligations.EveryTickIsOneBusCycle : Prop :=
  ∀ s t : State, tick s = .next t → ∃ c, t.log = c :: s.log ∧ t.inputs = s.inputs.drop 1

/-- From every boundary state a step has a next state, again at a boundary, after one to six bus cycles. From
40_sequencer.md R163, 40_sequencer.md R174, 60_exceptions.md R400. The model's own: the cycle log (log 5), the
size of a step (log 1). -/
def Obligations.StepFromBoundaryCompletes : Prop :=
  ∀ s : State, s.seq.mode = .boundary →
    ∃ (t : State) (cs : List BusCycle), step s = .next t ∧ t.seq.mode = .boundary ∧ t.log = cs ++ s.log ∧ 1 ≤ cs.length ∧ cs.length ≤ 6

/-- A tick depends on the core state, the bus side and its own sample only. From 10_state.md R58, 20_memory.md R68,
40_sequencer.md R191. R191 is marked in the spec as its own inference from other rules. The model's own: the
sample list (logs 2, 3). -/
def Obligations.NextStateHasNoHiddenInput : Prop :=
  ∀ (s : State) (i : TickIn),
    (∃ (t : State) (c : BusCycle), ∀ (later : List TickIn) (l : List BusCycle),
      tick { s with inputs := i :: later, log := l } = .next { t with inputs := later, log := c :: l }) ∨
    (∃ r : Refusal, ∀ (later : List TickIn) (l : List BusCycle),
      tick { s with inputs := i :: later, log := l } = .refused r)

/-- In the middle of a sequence the lines RESET and HALT_LINE have no effect. From 20_memory.md R62, 40_sequencer.md
R164, 40_sequencer.md R166, 40_sequencer.md R174. The model's own: the sample list (logs 2, 3). -/
def Obligations.ResetAndHoldIgnoredInsideSequences : Prop :=
  ∀ (s : State) (i : TickIn) (later : List TickIn) (x y : Bool), s.seq.mode ≠ .boundary →
    tick { s with inputs := { i with reset := x, haltLine := y } :: later } = tick { s with inputs := i :: later }

/-- RESET, then locked, then HALT_LINE, then halted, then a detected interrupt, then the next instruction. From
40_sequencer.md R163, 60_exceptions.md R418. R418 is marked in the spec as its own inference from other rules.
The model's own: the sample list (logs 2, 3). -/
def Obligations.TickCasesInOrder : Prop :=
  ∀ s : State,
    (s.seq.mode = .boundary → (s.sampleAt 0).reset = true → s.tickCase = .reset) ∧
    (s.seq.mode = .boundary → (s.sampleAt 0).reset = false → s.locked = true → s.tickCase = .locked) ∧
    (s.seq.mode = .boundary → (s.sampleAt 0).reset = false → s.locked = false → (s.sampleAt 0).haltLine = true →
      s.tickCase = .held) ∧
    (s.seq.mode = .boundary → (s.sampleAt 0).reset = false → s.locked = false → (s.sampleAt 0).haltLine = false →
      s.halted = true → s.tickCase = .halted) ∧
    (s.seq.mode = .boundary → (s.sampleAt 0).reset = false → s.locked = false → (s.sampleAt 0).haltLine = false →
      s.halted = false → s.irqDetected = true → s.tickCase = .startService) ∧
    (s.Starts → s.tickCase = .startInstr) ∧
    (s.seq.mode ≠ .boundary → s.locked = false → s.tickCase = .goOn)

/-- Until RESET a locked core only idles, for any number of steps: no item of the core changes, and memory takes
just the other agents' writes. From 40_sequencer.md R165, 60_exceptions.md R453, 46_system.md R344. The model's
own: the cycle log (log 5), the sample list (logs 2, 3), the size of a step (log 1). -/
def Obligations.LockedCoreIdlesUntilReset : Prop :=
  ∀ (n : Nat) (s : State), s.locked = true → s.seq.mode = .boundary →
    (∀ k, k < n → (s.sampleAt k).reset = false) →
    Host.Core.run Sys2Proof.core n s =
      .next { s with
        mem := if n = 0 then s.mem else s.memAt (n - 1), inputs := s.inputs.drop n,
        log := List.replicate n (.idle none) ++ s.log }

/-- A held core idles and changes nothing; a halted one idles and wakes on IRQ_PENDING, detecting only with IME = 1.
From 40_sequencer.md R166, 40_sequencer.md R167. The model's own: the cycle log (log 5), the sample list (logs
2, 3), the size of a step (log 1). -/
def Obligations.HeldAndHaltedTicks : Prop :=
  ∀ s : State, s.seq.mode = .boundary → (s.sampleAt 0).reset = false → s.locked = false →
    ((s.sampleAt 0).haltLine = true →
      ∃ t, step s = .next t ∧ tick s = .next t ∧
        t = { s with mem := s.mem.writeAll (s.sampleAt 0).others, inputs := s.inputs.drop 1, log := .idle none :: s.log }) ∧
    ((s.sampleAt 0).haltLine = false → s.halted = true →
      ∃ t, step s = .next t ∧ tick s = .next t ∧
        ((s.sampleAt 0).irqPending = false →
          t = { s with mem := s.mem.writeAll (s.sampleAt 0).others, inputs := s.inputs.drop 1, log := .idle none :: s.log }) ∧
        ((s.sampleAt 0).irqPending = true →
          t = { s with
            halted := false, irqDetected := if s.ime then true else s.irqDetected,
            mem := s.mem.writeAll (s.sampleAt 0).others, inputs := s.inputs.drop 1, log := .idle none :: s.log }))

/-- A detected interrupt is serviced: PC pushed high byte first, IME 0, PC at the vector selected in the fifth
cycle. From 60_exceptions.md R420, 60_exceptions.md R421, 60_exceptions.md R422, 60_exceptions.md R423,
40_sequencer.md R168, 40_sequencer.md R177. The model's own: the cycle log (log 5), the sample list (logs 2, 3),
the canonical memory (log 4), the size of a step (log 1). -/
def Obligations.ServiceSequenceTakesInterrupt : Prop :=
  ∀ s : State, s.seq.mode = .boundary → (s.sampleAt 0).reset = false → s.locked = false →
    (s.sampleAt 0).haltLine = false → s.halted = false → s.irqDetected = true → s.Undisturbed → s.mem.wf = true →
    ∃ t, step s = .next t ∧ Pushed s t s.pc ∧ t.pc = (s.sampleAt 4).vector ∧ t.ime = false ∧ t.irqDetected = false ∧
      t.regs = s.regs ∧ t.flags = s.flags ∧ t.eiPending = s.eiPending ∧ t.haltBug = s.haltBug ∧
      t.halted = false ∧ t.locked = false ∧ t.seq = Sequencer.rest ∧ t.inputs = s.inputs.drop 5 ∧
      t.log = ([BusCycle.idle none, .idle none] ++ s.pushes s.pc ++ [BusCycle.idle (s.sampleAt 4).selected]).reverse ++ s.log

/-- The selected source is the lowest enabled pending one; with none the vector is the fallback 0x0000. From
60_exceptions.md R417, 60_exceptions.md R423, 60_exceptions.md R424, 20_memory.md R65. The model's own: the
sample list (logs 2, 3). -/
def Obligations.LowestSourceWins : Prop :=
  ∀ inp : TickIn,
    (∀ i : BitVec 3, inp.selected = some i ↔
      ((inp.ie &&& inp.irqFlags).getLsbD i.toNat = true ∧ ∀ j, j < i.toNat → (inp.ie &&& inp.irqFlags).getLsbD j = false)) ∧
    (∀ i : BitVec 3, inp.selected = some i → inp.vector = BitVec.ofNat 16 (0x40 + 8 * i.toNat)) ∧
    (inp.ie &&& inp.irqFlags = 0#8 → inp.selected = none ∧ inp.vector = 0x0000#16)

/-- HALT: the four combinations of IME and IRQ_PENDING. From 46_system.md R331, 40_sequencer.md R176. The model's
own: the cycle log (log 5), the sample list (logs 2, 3), the canonical memory (log 4), bytes given to exec (log
8). -/
def Obligations.HaltEntersOrGlitches : Prop :=
  ∀ s : State, s.Undisturbed → s.locked = false → s.eiPending = false →
    ∃ t, exec .halt s = .next t ∧ RegsKept s t ∧ t.flags = s.flags ∧ t.sp = s.sp ∧ t.pc = s.pcAfter 1 ∧ MemKept s t ∧
      t.seq = Sequencer.rest ∧ t.log = .read s.pc 0x76#8 :: s.log ∧ t.inputs = s.inputs.drop 1 ∧
      t.locked = false ∧ t.ime = s.ime ∧ t.eiPending = false ∧
      (if (s.sampleAt 0).irqPending then
        if s.ime then t.halted = s.halted ∧ t.haltBug = false ∧ t.irqDetected = true
        else t.halted = s.halted ∧ t.haltBug = true ∧ t.irqDetected = s.irqDetected
      else t.halted = true ∧ t.haltBug = false ∧ t.irqDetected = s.irqDetected)

/-- Under the halt glitch INC r, as the one-byte instruction at PC, is fetched and executed twice, and only then PC
moves past it. From 40_sequencer.md R170, 70_reset_and_hazards.md R481, 10_state.md R42. R481 and R42 are marked
in the spec as its own inference from other rules. The model's own: the sample list (logs 2, 3), the size of a
step (log 1). -/
def Obligations.HaltGlitchRunsNextInstructionTwice : Prop :=
  ∀ (s : State) (r : Reg), s.Starts → s.Undisturbed → s.haltBug = true → s.ime = false →
    (s.sampleAt 1).reset = false → (s.sampleAt 1).haltLine = false → [s.mem.read s.pc] = encode (.incR r) →
    ∃ t u, step s = .next t ∧ t.pc = s.pc ∧ t.haltBug = false ∧ t.readReg r = s.readReg r + 1#8 ∧
      step t = .next u ∧ u.pc = s.pc + 1#16 ∧ u.haltBug = false ∧ u.readReg r = s.readReg r + 2#8

/-- After EI with IME = 0 a NOP that follows it runs whole before an interrupt is detected, and the NOP's poll point
detects it. From 46_system.md R332, 40_sequencer.md R176, 60_exceptions.md R416, 70_reset_and_hazards.md R480.
R480 is marked in the spec as its own inference from other rules. The model's own: the sample list (logs 2, 3),
the size of a step (log 1). -/
def Obligations.EnableTakesEffectAfterNextInstruction : Prop :=
  ∀ s : State, s.Starts → s.Undisturbed → s.haltBug = false → s.ime = false →
    (s.sampleAt 1).reset = false → (s.sampleAt 1).haltLine = false →
    (s.sampleAt 2).reset = false → (s.sampleAt 2).haltLine = false →
    (s.sampleAt 0).irqPending = true → (s.sampleAt 1).irqPending = true →
    s.mem.read s.pc = 0x18#8 → s.mem.read (s.pc + 1#16) = 0x00#8 →
    ∃ t u, step s = .next t ∧ t.ime = true ∧ t.irqDetected = false ∧ t.pc = s.pc + 1#16 ∧
      step t = .next u ∧ u.ime = true ∧ u.irqDetected = true ∧ u.pc = s.pc + 2#16 ∧ u.tickCase = .startService

/-- EI: IME 1 after its own poll point, detection with the old IME; DI: IME and ei_pending 0 before its poll point.
From 46_system.md R332, 46_system.md R333. The model's own: the cycle log (log 5), the sample list (logs 2, 3),
the canonical memory (log 4), bytes given to exec (log 8). -/
def Obligations.EnableDisableInterrupts : Prop :=
  ∀ s : State, s.Undisturbed →
    (∃ t, exec .ei s = .next t ∧ RegsKept s t ∧ t.flags = s.flags ∧ t.sp = s.sp ∧ t.pc = s.pcAfter 1 ∧ MemKept s t ∧
      Ran s t (s.fetches 0 [0x18#8]) ∧ PolledWith s t 1 s.ime true) ∧
    (∃ t, exec .di s = .next t ∧ RegsKept s t ∧ t.flags = s.flags ∧ t.sp = s.sp ∧ t.pc = s.pcAfter 1 ∧ MemKept s t ∧
      Ran s t (s.fetches 0 [0x10#8]) ∧ PolledWith s t 1 false false)

/-- Every instruction performs exactly the bus cycles of the timing table, in kind, order and number. From
40_sequencer.md R190, 70_reset_and_hazards.md R490, 70_reset_and_hazards.md R491. R491 is marked in the spec as
its own inference from other rules. The model's own: the cycle log (log 5), the sample list (logs 2, 3), bytes
given to exec (log 8). -/
def Obligations.CycleKindsAndCounts : Prop :=
  (∀ (i : Instr) (s : State), WellFormed i = true →
    ∃ (t : State) (cs : List BusCycle), exec i s = .next t ∧ t.log = cs.reverse ++ s.log ∧ t.inputs = s.inputs.drop cs.length ∧
      cs.map BusCycle.kind = patternOf s.flags i ∧ cs.length = ticksOf s.flags i) ∧
  (∀ s : State, ∃ cs : List BusCycle, s.service.log = cs.reverse ++ s.log ∧
    cs.map BusCycle.kind = [CycleKind.idle, .idle, .write, .write, .idle])

/-- No instruction writes a flag the flag table does not give it. From 10_state.md R45. The model's own: bytes given
to exec (log 8). -/
def Obligations.FlagsWrittenAreTheTables : Prop :=
  (∀ (i : Instr) (s t : State), exec i s = .next t →
    ((flagsWritten i).sf = false → t.flags.sf = s.flags.sf) ∧ ((flagsWritten i).zf = false → t.flags.zf = s.flags.zf) ∧
    ((flagsWritten i).hf = false → t.flags.hf = s.flags.hf) ∧ ((flagsWritten i).vf = false → t.flags.vf = s.flags.vf) ∧
    ((flagsWritten i).cf = false → t.flags.cf = s.flags.cf)) ∧
  (∀ s : State, s.service.flags = s.flags)

/-- IME, halted, locked and halt_bug are written only by the instructions the rules name. From 10_state.md R49,
10_state.md R55, 10_state.md R56, 10_state.md R57. The model's own: bytes given to exec (log 8). -/
def Obligations.ControlStateWrittenByFewInstructions : Prop :=
  ∀ (i : Instr) (s t : State), exec i s = .next t →
    (i ≠ .ei → i ≠ .di → i ≠ .reti → s.eiPending = false → t.ime = s.ime) ∧
    (i ≠ .halt → t.halted = s.halted) ∧
    (i ≠ .undLockDD → i ≠ .undLockED → i ≠ .undLockFD → t.locked = s.locked) ∧
    (i ≠ .halt → t.haltBug = false)

/-- Between ticks: LD r,(HL) reads what other agents wrote before; INC (HL) overwrites what one wrote after its
read. From 20_memory.md R84, 20_memory.md R94, 70_reset_and_hazards.md R483. R483 is marked in the spec as its
own inference from other rules. The model's own: the sample list (logs 2, 3), the canonical memory (log 4),
bytes given to exec (log 8). -/
def Obligations.OtherAgentsBetweenTicks : Prop :=
  (∀ (s : State) (r : Reg) (i0 i1 : TickIn) (later : List TickIn), s.inputs = i0 :: i1 :: later →
    ∃ t, exec (.ldRM r) s = .next t ∧ t.readReg r = ((s.mem.writeAll i0.others).writeAll i1.others).read s.hl) ∧
  (∀ (s : State) (i0 i1 i2 : TickIn) (later : List TickIn) (x : Byte), s.mem.wf = true →
    s.inputs = i0 :: i1 :: i2 :: later → i2.others = [(s.hl, x)] →
    ∃ t, exec .incM s = .next t ∧
      t.mem.read s.hl = ((s.mem.writeAll i0.others).writeAll i1.others).read s.hl + 1#8)

/-- pack(unpack(b)) = (b & 0xD5) | 0x20, twice is once, and unpack(pack()) keeps every flag. From 10_state.md R46,
10_state.md R47, 10_state.md R48. R48 is marked in the spec as its own inference from other rules. -/
def Obligations.PackAfterUnpack : Prop :=
  (∀ b : Byte, pack (unpack b) = (b &&& 0xD5#8) ||| 0x20#8 ∧ pack (unpack (pack (unpack b))) = pack (unpack b)) ∧
  (∀ f : Flags, unpack (pack f) = f)

/-- Writing a pair sets both halves; writing a half changes that half of the pair and nothing else. Formalises R34. -/
def Obligations.PairViewsAreTheHalves : Prop :=
  (∀ (s : State) (v : Word),
    ((s.writePair .bc v).readReg .b = hiByte v ∧ (s.writePair .bc v).readReg .c = loByte v ∧ (s.writePair .bc v).readPair .bc = v) ∧
    ((s.writePair .de v).readReg .d = hiByte v ∧ (s.writePair .de v).readReg .e = loByte v ∧ (s.writePair .de v).readPair .de = v) ∧
    ((s.writePair .hl v).readReg .h = hiByte v ∧ (s.writePair .hl v).readReg .l = loByte v ∧ (s.writePair .hl v).readPair .hl = v)) ∧
  (∀ (s : State) (v : Byte),
    (s.writeReg .b v).readPair .bc = joinBytes v (s.readReg .c) ∧ (s.writeReg .c v).readPair .bc = joinBytes (s.readReg .b) v ∧
    (s.writeReg .d v).readPair .de = joinBytes v (s.readReg .e) ∧ (s.writeReg .e v).readPair .de = joinBytes (s.readReg .d) v ∧
    (s.writeReg .h v).readPair .hl = joinBytes v (s.readReg .l) ∧ (s.writeReg .l v).readPair .hl = joinBytes (s.readReg .h) v) ∧
  (∀ (s : State) (r q : Reg) (v : Byte), (s.writeReg r v).readReg r = v ∧
    (q ≠ r → (s.writeReg r v).readReg q = s.readReg q) ∧ (s.writeReg r v).sp = s.sp) ∧
  (∀ (s : State) (p q : Pair) (v : Word), (s.writePair p v).readPair p = v ∧
    (q ≠ p → (s.writePair p v).readPair q = s.readPair q) ∧ (s.writePair p v).readReg .a = s.readReg .a)

/-- add8: result, carries out of bits 7, 3 and 6, overflow, sign and zero. Formalises R231. -/
def Obligations.AdderIsTheRule : Prop :=
  ∀ (a v : Byte) (cin : Bool),
    (add8 a v cin).1.toNat = (a.toNat + v.toNat + cin.toNat) % 256 ∧
    ((add8 a v cin).2.cf = true ↔ 255 < a.toNat + v.toNat + cin.toNat) ∧
    ((add8 a v cin).2.hf = true ↔ 15 < (a &&& 0x0F#8).toNat + (v &&& 0x0F#8).toNat + cin.toNat) ∧
    ((add8 a v cin).2.vf = true ↔
      ¬(127 < (a &&& 0x7F#8).toNat + (v &&& 0x7F#8).toNat + cin.toNat ↔ (add8 a v cin).2.cf = true)) ∧
    ((add8 a v cin).2.vf = true ↔ a.msb = v.msb ∧ (add8 a v cin).1.msb ≠ a.msb) ∧
    (add8 a v cin).2.sf = (add8 a v cin).1.msb ∧ ((add8 a v cin).2.zf = true ↔ (add8 a v cin).1.toNat = 0)

/-- sub8: result, borrows out of bits 7, 3 and 6, overflow, sign and zero. Formalises R232. -/
def Obligations.SubtractorIsTheRule : Prop :=
  ∀ (a v : Byte) (bin : Bool),
    ((sub8 a v bin).1.toNat : Int) = ((a.toNat : Int) - v.toNat - bin.toNat) % 256 ∧
    ((sub8 a v bin).2.cf = true ↔ a.toNat < v.toNat + bin.toNat) ∧
    ((sub8 a v bin).2.hf = true ↔ (a &&& 0x0F#8).toNat < (v &&& 0x0F#8).toNat + bin.toNat) ∧
    ((sub8 a v bin).2.vf = true ↔
      ¬((a &&& 0x7F#8).toNat < (v &&& 0x7F#8).toNat + bin.toNat ↔ (sub8 a v bin).2.cf = true)) ∧
    ((sub8 a v bin).2.vf = true ↔ a.msb ≠ v.msb ∧ (sub8 a v bin).1.msb = v.msb) ∧
    (sub8 a v bin).2.sf = (sub8 a v bin).1.msb ∧ ((sub8 a v bin).2.zf = true ↔ (sub8 a v bin).1.toNat = 0)

/-- Which adder, subtractor or logic function each of the eight operations uses, and its carry-in. From 42_alu8.md
R233, 42_alu8.md R234, 42_alu8.md R235, 42_alu8.md R236, 42_alu8.md R237, 42_alu8.md R238, 42_alu8.md R239,
42_alu8.md R240, 42_alu8.md R241. -/
def Obligations.AluOperationsAreTheRules : Prop :=
  ∀ (a v : Byte) (cf : Bool),
    aluResult .add a v cf = add8 a v false ∧ aluResult .adc a v cf = add8 a v cf ∧
    aluResult .sub a v cf = sub8 a v false ∧ aluResult .sbc a v cf = sub8 a v cf ∧
    aluResult .cp a v cf = (a, (sub8 a v false).2) ∧
    aluResult .and a v cf = (a &&& v, ⟨(a &&& v).msb, a &&& v == 0#8, false, false, false⟩) ∧
    aluResult .xor a v cf = (a ^^^ v, ⟨(a ^^^ v).msb, a ^^^ v == 0#8, false, false, false⟩) ∧
    aluResult .or a v cf = (a ||| v, ⟨(a ||| v).msb, a ||| v == 0#8, false, false, false⟩)

/-- Bit by bit, the result and the carry of the eight rotate and shift operations, and their other flags. From
47_prefixed.md R361, 47_prefixed.md R362, 47_prefixed.md R363, 47_prefixed.md R364, 47_prefixed.md R365,
47_prefixed.md R366, 47_prefixed.md R367, 47_prefixed.md R368. -/
def Obligations.ShiftsMoveOneBit : Prop :=
  ∀ (v : Byte) (c : Bool),
    (∀ k, k < 7 →
      (shiftResult .rlc v c).1.getLsbD (k + 1) = v.getLsbD k ∧ (shiftResult .rl v c).1.getLsbD (k + 1) = v.getLsbD k ∧
      (shiftResult .sla v c).1.getLsbD (k + 1) = v.getLsbD k ∧ (shiftResult .rrc v c).1.getLsbD k = v.getLsbD (k + 1) ∧
      (shiftResult .rr v c).1.getLsbD k = v.getLsbD (k + 1) ∧ (shiftResult .sra v c).1.getLsbD k = v.getLsbD (k + 1) ∧
      (shiftResult .srl v c).1.getLsbD k = v.getLsbD (k + 1)) ∧
    (shiftResult .rlc v c).1.getLsbD 0 = v.getLsbD 7 ∧ (shiftResult .rl v c).1.getLsbD 0 = c ∧
    (shiftResult .sla v c).1.getLsbD 0 = false ∧ (shiftResult .rrc v c).1.getLsbD 7 = v.getLsbD 0 ∧
    (shiftResult .rr v c).1.getLsbD 7 = c ∧ (shiftResult .sra v c).1.getLsbD 7 = v.getLsbD 7 ∧
    (shiftResult .srl v c).1.getLsbD 7 = false ∧
    (∀ k, k < 4 → (shiftResult .swap v c).1.getLsbD k = v.getLsbD (k + 4) ∧
      (shiftResult .swap v c).1.getLsbD (k + 4) = v.getLsbD k) ∧
    (shiftResult .rlc v c).2.cf = v.getLsbD 7 ∧ (shiftResult .rl v c).2.cf = v.getLsbD 7 ∧
    (shiftResult .sla v c).2.cf = v.getLsbD 7 ∧ (shiftResult .rrc v c).2.cf = v.getLsbD 0 ∧
    (shiftResult .rr v c).2.cf = v.getLsbD 0 ∧ (shiftResult .sra v c).2.cf = v.getLsbD 0 ∧
    (shiftResult .srl v c).2.cf = v.getLsbD 0 ∧ (shiftResult .swap v c).2.cf = false ∧
    (∀ op, (shiftResult op v c).2.sf = (shiftResult op v c).1.msb ∧
      ((shiftResult op v c).2.zf = true ↔ (shiftResult op v c).1 = 0#8) ∧
      (shiftResult op v c).2.hf = false ∧ (shiftResult op v c).2.vf = false)

/-- The eight conditions and their codes. From 45_control.md R300, 30_encoding.md R115. -/
def Obligations.ConditionsTestTheirFlags : Prop :=
  (∀ f : Flags,
    (condHolds .nz f = true ↔ f.zf = false) ∧ (condHolds .z f = true ↔ f.zf = true) ∧
    (condHolds .nc f = true ↔ f.cf = false) ∧ (condHolds .c f = true ↔ f.cf = true) ∧
    (condHolds .nv f = true ↔ f.vf = false) ∧ (condHolds .v f = true ↔ f.vf = true) ∧
    (condHolds .p f = true ↔ f.sf = false) ∧ (condHolds .m f = true ↔ f.sf = true)) ∧
  [Cond.nz, .z, .nc, .c, .nv, .v, .p, .m].map (fun cc => cc.code.number) = [0, 1, 2, 3, 4, 5, 6, 7]

/-- LD r,r' and LD r,n: the register gets the value, everything else is kept. From 41_load8.md R200, 41_load8.md
R203. The model's own: the cycle log (log 5), the sample list (logs 2, 3), the canonical memory (log 4), bytes
given to exec (log 8). -/
def Obligations.LoadRegister : Prop :=
  ∀ (dst src : Reg) (n : Byte) (s : State), s.Undisturbed →
    (∃ t, exec (.ldRR dst src) s = .next t ∧ t.readReg dst = s.readReg src ∧ RegsKeptBut s t dst ∧
      t.flags = s.flags ∧ t.sp = s.sp ∧ t.pc = s.pcAfter 1 ∧ MemKept s t ∧ RanInstr s t (.ldRR dst src) []) ∧
    (∃ t, exec (.ldRN dst n) s = .next t ∧ t.readReg dst = n ∧ RegsKeptBut s t dst ∧
      t.flags = s.flags ∧ t.sp = s.sp ∧ t.pc = s.pcAfter 2 ∧ MemKept s t ∧ RanInstr s t (.ldRN dst n) [])

/-- LD r,(HL); LD A,(BC); LD A,(DE); LD A,(nn); LD A,(HL+d): the register gets the byte at the effective address.
From 41_load8.md R201, 41_load8.md R205, 41_load8.md R206, 41_load8.md R209, 41_load8.md R211. The model's own:
the cycle log (log 5), the sample list (logs 2, 3), the canonical memory (log 4), bytes given to exec (log 8). -/
def Obligations.LoadFromMemory : Prop :=
  ∀ (r : Reg) (nn : Word) (disp : Byte) (s : State), s.Undisturbed →
    (∃ t, exec (.ldRM r) s = .next t ∧ t.readReg r = s.mem.read s.hl ∧ RegsKeptBut s t r ∧ t.flags = s.flags ∧
      t.sp = s.sp ∧ t.pc = s.pcAfter 1 ∧ MemKept s t ∧ RanInstr s t (.ldRM r) [.read s.hl (s.mem.read s.hl)]) ∧
    (∃ t, exec .ldABc s = .next t ∧ t.readReg .a = s.mem.read (s.readPair .bc) ∧ RegsKeptBut s t .a ∧
      t.flags = s.flags ∧ t.sp = s.sp ∧ t.pc = s.pcAfter 1 ∧ MemKept s t ∧
      RanInstr s t .ldABc [.read (s.readPair .bc) (s.mem.read (s.readPair .bc))]) ∧
    (∃ t, exec .ldADe s = .next t ∧ t.readReg .a = s.mem.read (s.readPair .de) ∧ RegsKeptBut s t .a ∧
      t.flags = s.flags ∧ t.sp = s.sp ∧ t.pc = s.pcAfter 1 ∧ MemKept s t ∧
      RanInstr s t .ldADe [.read (s.readPair .de) (s.mem.read (s.readPair .de))]) ∧
    (∃ t, exec (.ldANn nn) s = .next t ∧ t.readReg .a = s.mem.read nn ∧ RegsKeptBut s t .a ∧
      t.flags = s.flags ∧ t.sp = s.sp ∧ t.pc = s.pcAfter 3 ∧ MemKept s t ∧
      RanInstr s t (.ldANn nn) [.read nn (s.mem.read nn)]) ∧
    (∃ t, exec (.ldAHld disp) s = .next t ∧ t.readReg .a = s.mem.read (indexedAddress s.hl disp) ∧ RegsKeptBut s t .a ∧
      t.flags = s.flags ∧ t.sp = s.sp ∧ t.pc = s.pcAfter 2 ∧ MemKept s t ∧
      RanInstr s t (.ldAHld disp)
        [.idle none, .read (indexedAddress s.hl disp) (s.mem.read (indexedAddress s.hl disp))])

/-- LD (HL),r; LD (HL),n; LD (BC),A; LD (DE),A; LD (nn),A; LD (HL+d),A: the byte at the effective address gets the
value. From 41_load8.md R202, 41_load8.md R204, 41_load8.md R207, 41_load8.md R208, 41_load8.md R210,
41_load8.md R212. The model's own: the cycle log (log 5), the sample list (logs 2, 3), the canonical memory (log
4), bytes given to exec (log 8). -/
def Obligations.StoreToMemory : Prop :=
  ∀ (r : Reg) (n : Byte) (nn : Word) (disp : Byte) (s : State), s.Undisturbed → s.mem.wf = true →
    (∃ t, exec (.ldMR r) s = .next t ∧ t.mem.read s.hl = s.readReg r ∧ MemKeptBut s t [s.hl] ∧ RegsKept s t ∧ t.flags = s.flags ∧ t.sp = s.sp ∧
      t.pc = s.pcAfter 1 ∧ RanInstr s t (.ldMR r) [.write s.hl (s.readReg r)]) ∧
    (∃ t, exec (.ldMN n) s = .next t ∧ t.mem.read s.hl = n ∧ MemKeptBut s t [s.hl] ∧ RegsKept s t ∧ t.flags = s.flags ∧ t.sp = s.sp ∧
      t.pc = s.pcAfter 2 ∧ RanInstr s t (.ldMN n) [.write s.hl n]) ∧
    (∃ t, exec .ldBcA s = .next t ∧ t.mem.read (s.readPair .bc) = s.readReg .a ∧ MemKeptBut s t [s.readPair .bc] ∧ RegsKept s t ∧ t.flags = s.flags ∧ t.sp = s.sp ∧
      t.pc = s.pcAfter 1 ∧ RanInstr s t .ldBcA [.write (s.readPair .bc) (s.readReg .a)]) ∧
    (∃ t, exec .ldDeA s = .next t ∧ t.mem.read (s.readPair .de) = s.readReg .a ∧ MemKeptBut s t [s.readPair .de] ∧ RegsKept s t ∧ t.flags = s.flags ∧ t.sp = s.sp ∧
      t.pc = s.pcAfter 1 ∧ RanInstr s t .ldDeA [.write (s.readPair .de) (s.readReg .a)]) ∧
    (∃ t, exec (.ldNnA nn) s = .next t ∧ t.mem.read nn = s.readReg .a ∧ MemKeptBut s t [nn] ∧ RegsKept s t ∧ t.flags = s.flags ∧ t.sp = s.sp ∧
      t.pc = s.pcAfter 3 ∧ RanInstr s t (.ldNnA nn) [.write nn (s.readReg .a)]) ∧
    (∃ t, exec (.ldHldA disp) s = .next t ∧ t.mem.read (indexedAddress s.hl disp) = s.readReg .a ∧
      MemKeptBut s t [indexedAddress s.hl disp] ∧ RegsKept s t ∧ t.flags = s.flags ∧ t.sp = s.sp ∧ t.pc = s.pcAfter 2 ∧
      RanInstr s t (.ldHldA disp) [.idle none, .write (indexedAddress s.hl disp) (s.readReg .a)])

/-- The indexed effective address is HL plus d as a signed number, modulo 2^16. From 30_encoding.md R117,
30_encoding.md R137, 00_scope.md R7. -/
def Obligations.SignedOffsetsWrap : Prop :=
  ∀ (a : Word) (d : Byte), indexedAddress a d = BitVec.ofInt 16 ((a.toNat : Int) + d.toInt) ∧
    (sext16 d).toInt = d.toInt ∧ -128 ≤ d.toInt ∧ d.toInt ≤ 127

/-- ADD ADC SUB SBC AND XOR OR CP with a register, the byte at HL, or n: A and the five flags get the operation's
result. From 42_alu8.md R230, 42_alu8.md R234, 42_alu8.md R235, 42_alu8.md R236, 42_alu8.md R237, 42_alu8.md
R238, 42_alu8.md R239, 42_alu8.md R240, 42_alu8.md R241. The model's own: the cycle log (log 5), the sample list
(logs 2, 3), the canonical memory (log 4), bytes given to exec (log 8). -/
def Obligations.AluOnRegisterMemoryImmediate : Prop :=
  ∀ (op : AluOp) (r : Reg) (n : Byte) (s : State), s.Undisturbed →
    (∃ t, exec (aluOnReg r op) s = .next t ∧
      (t.readReg .a, t.flags) = aluResult op (s.readReg .a) (s.readReg r) s.flags.cf ∧ RegsKeptBut s t .a ∧ t.sp = s.sp ∧
      t.pc = s.pcAfter 1 ∧ MemKept s t ∧ RanInstr s t (aluOnReg r op) []) ∧
    (∃ t, exec (aluOnMem op) s = .next t ∧
      (t.readReg .a, t.flags) = aluResult op (s.readReg .a) (s.mem.read s.hl) s.flags.cf ∧ RegsKeptBut s t .a ∧
      t.sp = s.sp ∧ t.pc = s.pcAfter 1 ∧ MemKept s t ∧ RanInstr s t (aluOnMem op) [.read s.hl (s.mem.read s.hl)]) ∧
    (∃ t, exec (aluOnImm n op) s = .next t ∧
      (t.readReg .a, t.flags) = aluResult op (s.readReg .a) n s.flags.cf ∧ RegsKeptBut s t .a ∧ t.sp = s.sp ∧
      t.pc = s.pcAfter 2 ∧ MemKept s t ∧ RanInstr s t (aluOnImm n op) [])

/-- INC r, DEC r, INC (HL), DEC (HL): one more or less, SF ZF HF VF by the rule, CF kept. From 42_alu8.md R242,
42_alu8.md R243, 42_alu8.md R244, 42_alu8.md R245. The model's own: the cycle log (log 5), the sample list (logs
2, 3), the canonical memory (log 4), bytes given to exec (log 8). -/
def Obligations.IncrementDecrementByte : Prop :=
  ∀ (r : Reg) (s : State), s.Undisturbed → s.mem.wf = true →
    (∃ t, exec (.incR r) s = .next t ∧ t.readReg r = s.readReg r + 1#8 ∧ RegsKeptBut s t r ∧
      t.flags = ⟨(s.readReg r + 1#8).msb, s.readReg r + 1#8 == 0#8, s.readReg r &&& 0x0F#8 == 0x0F#8, s.readReg r == 0x7F#8, s.flags.cf⟩ ∧
      t.sp = s.sp ∧ t.pc = s.pcAfter 1 ∧ MemKept s t ∧ RanInstr s t (.incR r) []) ∧
    (∃ t, exec (.decR r) s = .next t ∧ t.readReg r = s.readReg r - 1#8 ∧ RegsKeptBut s t r ∧
      t.flags = ⟨(s.readReg r - 1#8).msb, s.readReg r - 1#8 == 0#8, s.readReg r &&& 0x0F#8 == 0x00#8, s.readReg r == 0x80#8, s.flags.cf⟩ ∧
      t.sp = s.sp ∧ t.pc = s.pcAfter 1 ∧ MemKept s t ∧ RanInstr s t (.decR r) []) ∧
    (∃ t, exec .incM s = .next t ∧ t.mem.read s.hl = s.mem.read s.hl + 1#8 ∧ MemKeptBut s t [s.hl] ∧
      t.flags = ⟨(s.mem.read s.hl + 1#8).msb, s.mem.read s.hl + 1#8 == 0#8, s.mem.read s.hl &&& 0x0F#8 == 0x0F#8, s.mem.read s.hl == 0x7F#8, s.flags.cf⟩ ∧
      RegsKept s t ∧ t.sp = s.sp ∧ t.pc = s.pcAfter 1 ∧
      RanInstr s t .incM [.read s.hl (s.mem.read s.hl), .write s.hl (s.mem.read s.hl + 1#8)]) ∧
    (∃ t, exec .decM s = .next t ∧ t.mem.read s.hl = s.mem.read s.hl - 1#8 ∧ MemKeptBut s t [s.hl] ∧
      t.flags = ⟨(s.mem.read s.hl - 1#8).msb, s.mem.read s.hl - 1#8 == 0#8, s.mem.read s.hl &&& 0x0F#8 == 0x00#8, s.mem.read s.hl == 0x80#8, s.flags.cf⟩ ∧
      RegsKept s t ∧ t.sp = s.sp ∧ t.pc = s.pcAfter 1 ∧
      RanInstr s t .decM [.read s.hl (s.mem.read s.hl), .write s.hl (s.mem.read s.hl - 1#8)])

/-- CPL complements A and no flag; SCF sets CF; CCF complements CF; LD A,F and LD F,A move the flag byte. From
42_alu8.md R246, 42_alu8.md R247, 42_alu8.md R248, 46_system.md R338, 46_system.md R339. The model's own: the
cycle log (log 5), the sample list (logs 2, 3), the canonical memory (log 4), bytes given to exec (log 8). -/
def Obligations.ComplementCarryAndFlagByte : Prop :=
  ∀ s : State, s.Undisturbed →
    (∃ t, exec .cpl s = .next t ∧ t.readReg .a = ~~~(s.readReg .a) ∧ RegsKeptBut s t .a ∧ t.flags = s.flags ∧ t.sp = s.sp ∧
      t.pc = s.pcAfter 1 ∧ MemKept s t ∧ RanInstr s t .cpl []) ∧
    (∃ t, exec .scf s = .next t ∧ t.flags = { s.flags with cf := true } ∧ RegsKept s t ∧ t.sp = s.sp ∧
      t.pc = s.pcAfter 1 ∧ MemKept s t ∧ RanInstr s t .scf []) ∧
    (∃ t, exec .ccf s = .next t ∧ t.flags = { s.flags with cf := !s.flags.cf } ∧ RegsKept s t ∧ t.sp = s.sp ∧
      t.pc = s.pcAfter 1 ∧ MemKept s t ∧ RanInstr s t .ccf []) ∧
    (∃ t, exec .ldAF s = .next t ∧ t.readReg .a = pack s.flags ∧ RegsKeptBut s t .a ∧ t.flags = s.flags ∧ t.sp = s.sp ∧
      MemKept s t ∧ t.pc = s.pcAfter 1 ∧ RanInstr s t .ldAF []) ∧
    (∃ t, exec .ldFA s = .next t ∧ t.flags = ⟨(s.readReg .a).getLsbD 7, (s.readReg .a).getLsbD 6,
        (s.readReg .a).getLsbD 4, (s.readReg .a).getLsbD 2, (s.readReg .a).getLsbD 0⟩ ∧
      RegsKept s t ∧ t.sp = s.sp ∧ MemKept s t ∧ t.pc = s.pcAfter 1 ∧ RanInstr s t .ldFA [])

/-- LD pp,nn and LD SP,HL. From 43_load16_stack.md R270, 43_load16_stack.md R271. The model's own: the cycle log
(log 5), the sample list (logs 2, 3), the canonical memory (log 4), bytes given to exec (log 8). -/
def Obligations.LoadPairAndStackPointer : Prop :=
  ∀ (nn : Word) (s : State), s.Undisturbed →
    (∃ t, exec (.ldPpNn .bc nn) s = .next t ∧ t.regs = { s.regs with b := hiByte nn, c := loByte nn } ∧ t.flags = s.flags ∧
      t.sp = s.sp ∧ t.pc = s.pcAfter 3 ∧ MemKept s t ∧ RanInstr s t (.ldPpNn .bc nn) []) ∧
    (∃ t, exec (.ldPpNn .de nn) s = .next t ∧ t.regs = { s.regs with d := hiByte nn, e := loByte nn } ∧ t.flags = s.flags ∧
      t.sp = s.sp ∧ t.pc = s.pcAfter 3 ∧ MemKept s t ∧ RanInstr s t (.ldPpNn .de nn) []) ∧
    (∃ t, exec (.ldPpNn .hl nn) s = .next t ∧ t.regs = { s.regs with h := hiByte nn, l := loByte nn } ∧ t.flags = s.flags ∧
      t.sp = s.sp ∧ t.pc = s.pcAfter 3 ∧ MemKept s t ∧ RanInstr s t (.ldPpNn .hl nn) []) ∧
    (∃ t, exec (.ldPpNn .sp nn) s = .next t ∧ t.sp = nn ∧ t.regs = s.regs ∧ t.flags = s.flags ∧
      t.pc = s.pcAfter 3 ∧ MemKept s t ∧ RanInstr s t (.ldPpNn .sp nn) []) ∧
    (∃ t, exec .ldSpHl s = .next t ∧ t.sp = s.hl ∧ t.regs = s.regs ∧ t.flags = s.flags ∧
      t.pc = s.pcAfter 1 ∧ MemKept s t ∧ RanInstr s t .ldSpHl [.idle none])

/-- PUSH qq, PUSH AF, POP qq, POP AF. From 43_load16_stack.md R272, 43_load16_stack.md R273, 43_load16_stack.md
R274, 43_load16_stack.md R275, 20_memory.md R80. The model's own: the cycle log (log 5), the sample list (logs
2, 3), the canonical memory (log 4), bytes given to exec (log 8). -/
def Obligations.PushAndPopPairs : Prop :=
  ∀ (qq : PairQ) (s : State), s.Undisturbed → s.mem.wf = true →
    (∃ t, exec (.pushQq qq) s = .next t ∧ Pushed s t (s.readPair qq.toPair) ∧ t.regs = s.regs ∧ t.flags = s.flags ∧
      t.pc = s.pcAfter 1 ∧ RanInstr s t (.pushQq qq) (.idle none :: s.pushes (s.readPair qq.toPair))) ∧
    (∃ t, exec .pushAf s = .next t ∧ Pushed s t (joinBytes (s.readReg .a) (pack s.flags)) ∧ t.regs = s.regs ∧
      t.flags = s.flags ∧ t.pc = s.pcAfter 1 ∧
      RanInstr s t .pushAf (.idle none :: s.pushes (joinBytes (s.readReg .a) (pack s.flags)))) ∧
    (∃ t, exec (.popQq qq) s = .next t ∧ t.readPair qq.toPair = s.top ∧
      (∀ q : PairQ, q ≠ qq → t.readPair q.toPair = s.readPair q.toPair) ∧ t.readReg .a = s.readReg .a ∧
      t.flags = s.flags ∧ t.sp = s.sp + 2#16 ∧ t.pc = s.pcAfter 1 ∧ MemKept s t ∧ RanInstr s t (.popQq qq) s.pops) ∧
    (∃ t, exec .popAf s = .next t ∧ t.readReg .a = s.mem.read (s.sp + 1#16) ∧ RegsKeptBut s t .a ∧
      t.flags = unpack (s.mem.read s.sp) ∧ t.sp = s.sp + 2#16 ∧ t.pc = s.pcAfter 1 ∧ MemKept s t ∧
      RanInstr s t .popAf s.pops)

/-- A POP right after a PUSH restores the pair and SP; PUSH AF then POP AF restores A and all flags. From
43_load16_stack.md R272, 43_load16_stack.md R273, 43_load16_stack.md R274, 43_load16_stack.md R275. The model's
own: the sample list (logs 2, 3), the canonical memory (log 4), bytes given to exec (log 8). -/
def Obligations.PopUndoesPush : Prop :=
  ∀ (qq : PairQ) (s : State) (g : Regs) (f : Flags), s.Undisturbed → s.mem.wf = true →
    (∃ t u, exec (.pushQq qq) s = .next t ∧ exec (.popQq qq) { t with regs := g, flags := f } = .next u ∧
      u.readPair qq.toPair = s.readPair qq.toPair ∧ u.sp = s.sp) ∧
    (∃ t u, exec .pushAf s = .next t ∧ exec .popAf { t with regs := g, flags := f } = .next u ∧
      u.readReg .a = s.readReg .a ∧ u.flags = s.flags ∧ u.sp = s.sp)

/-- INC pp, DEC pp and ADD HL,pp. From 44_arith16.md R290, 44_arith16.md R291, 44_arith16.md R292. The model's own:
the cycle log (log 5), the sample list (logs 2, 3), the canonical memory (log 4), bytes given to exec (log 8). -/
def Obligations.PairArithmetic : Prop :=
  ∀ (pp : Pair) (s : State), s.Undisturbed →
    (∃ t, exec (.incPp pp) s = .next t ∧ t.readPair pp = s.readPair pp + 1#16 ∧
      (∀ q, q ≠ pp → t.readPair q = s.readPair q) ∧ t.readReg .a = s.readReg .a ∧ t.flags = s.flags ∧
      t.pc = s.pcAfter 1 ∧ MemKept s t ∧ RanInstr s t (.incPp pp) [.idle none]) ∧
    (∃ t, exec (.decPp pp) s = .next t ∧ t.readPair pp = s.readPair pp - 1#16 ∧
      (∀ q, q ≠ pp → t.readPair q = s.readPair q) ∧ t.readReg .a = s.readReg .a ∧ t.flags = s.flags ∧
      t.pc = s.pcAfter 1 ∧ MemKept s t ∧ RanInstr s t (.decPp pp) [.idle none]) ∧
    (∃ t, exec (.addHlPp pp) s = .next t ∧ t.hl = s.hl + s.readPair pp ∧
      (t.flags.hf = true ↔ 0x0FFF < (s.hl &&& 0x0FFF#16).toNat + (s.readPair pp &&& 0x0FFF#16).toNat) ∧
      (t.flags.cf = true ↔ 0xFFFF < s.hl.toNat + (s.readPair pp).toNat) ∧
      t.flags.sf = s.flags.sf ∧ t.flags.zf = s.flags.zf ∧ t.flags.vf = s.flags.vf ∧
      (∀ q, q ≠ .hl → t.readPair q = s.readPair q) ∧ t.readReg .a = s.readReg .a ∧
      t.pc = s.pcAfter 1 ∧ MemKept s t ∧ RanInstr s t (.addHlPp pp) [.idle none])

/-- JR e, JR cc,e, JP nn, JP cc,nn, JP (HL): where PC goes, taken and not taken. From 45_control.md R301,
45_control.md R302, 45_control.md R303, 45_control.md R304, 45_control.md R305. The model's own: the cycle log
(log 5), the sample list (logs 2, 3), the canonical memory (log 4), bytes given to exec (log 8). -/
def Obligations.Jumps : Prop :=
  ∀ (cc : Cond) (off : Byte) (nn : Word) (s : State), s.Undisturbed →
    (∃ t, exec (.jr off) s = .next t ∧ RegsKept s t ∧ t.flags = s.flags ∧ t.sp = s.sp ∧ MemKept s t ∧
      t.pc = BitVec.ofInt 16 (((s.pcAfter 2).toNat : Int) + off.toInt) ∧ RanInstr s t (.jr off) [.idle none]) ∧
    (∃ t, exec (.jrCc cc off) s = .next t ∧ RegsKept s t ∧ t.flags = s.flags ∧ t.sp = s.sp ∧ MemKept s t ∧
      if condHolds cc s.flags then
        t.pc = BitVec.ofInt 16 (((s.pcAfter 2).toNat : Int) + off.toInt) ∧ RanInstr s t (.jrCc cc off) [.idle none]
      else t.pc = s.pcAfter 2 ∧ RanInstr s t (.jrCc cc off) []) ∧
    (∃ t, exec (.jp nn) s = .next t ∧ RegsKept s t ∧ t.flags = s.flags ∧ t.sp = s.sp ∧ MemKept s t ∧ t.pc = nn ∧ RanInstr s t (.jp nn) [.idle none]) ∧
    (∃ t, exec (.jpCc cc nn) s = .next t ∧ RegsKept s t ∧ t.flags = s.flags ∧ t.sp = s.sp ∧ MemKept s t ∧
      if condHolds cc s.flags then t.pc = nn ∧ RanInstr s t (.jpCc cc nn) [.idle none]
      else t.pc = s.pcAfter 3 ∧ RanInstr s t (.jpCc cc nn) []) ∧
    (∃ t, exec .jpHl s = .next t ∧ RegsKept s t ∧ t.flags = s.flags ∧ t.sp = s.sp ∧ MemKept s t ∧ t.pc = s.hl ∧ RanInstr s t .jpHl [])

/-- CALL nn and CALL cc,nn: the return address is pushed, PC goes to nn. From 45_control.md R306, 45_control.md
R307, 20_memory.md R80. The model's own: the cycle log (log 5), the sample list (logs 2, 3), the canonical
memory (log 4), bytes given to exec (log 8). -/
def Obligations.Calls : Prop :=
  ∀ (cc : Cond) (nn : Word) (s : State), s.Undisturbed → s.mem.wf = true →
    (∃ t, exec (.call nn) s = .next t ∧ RegsKept s t ∧ t.flags = s.flags ∧ Pushed s t (s.pcAfter 3) ∧ t.pc = nn ∧
      RanInstr s t (.call nn) (.idle none :: s.pushes (s.pcAfter 3))) ∧
    (∃ t, exec (.callCc cc nn) s = .next t ∧ RegsKept s t ∧ t.flags = s.flags ∧
      if condHolds cc s.flags then Pushed s t (s.pcAfter 3) ∧ t.pc = nn ∧
        RanInstr s t (.callCc cc nn) (.idle none :: s.pushes (s.pcAfter 3))
      else t.sp = s.sp ∧ MemKept s t ∧ t.pc = s.pcAfter 3 ∧ RanInstr s t (.callCc cc nn) [])

/-- RET, RET cc and RETI: PC gets the popped address; RETI enables interrupts at once. From 45_control.md R308,
45_control.md R309, 45_control.md R310, 60_exceptions.md R430. The model's own: the cycle log (log 5), the
sample list (logs 2, 3), the canonical memory (log 4), bytes given to exec (log 8). -/
def Obligations.Returns : Prop :=
  ∀ (cc : Cond) (s : State), s.Undisturbed →
    (∃ t, exec .ret s = .next t ∧ RegsKept s t ∧ t.flags = s.flags ∧ MemKept s t ∧ t.sp = s.sp + 2#16 ∧ t.pc = s.top ∧
      RanInstr s t .ret (s.pops ++ [.idle none])) ∧
    (∃ t, exec (.retCc cc) s = .next t ∧ RegsKept s t ∧ t.flags = s.flags ∧ MemKept s t ∧
      if condHolds cc s.flags then t.sp = s.sp + 2#16 ∧ t.pc = s.top ∧
        RanInstr s t (.retCc cc) ([.idle none] ++ s.pops ++ [.idle none])
      else t.sp = s.sp ∧ t.pc = s.pcAfter 1 ∧ RanInstr s t (.retCc cc) [.idle none]) ∧
    (∃ t, exec .reti s = .next t ∧ RegsKept s t ∧ t.flags = s.flags ∧ MemKept s t ∧ t.sp = s.sp + 2#16 ∧ t.pc = s.top ∧
      Ran s t (s.fetches 0 [0xD9#8] ++ s.pops ++ [.idle none]) ∧ PolledWith s t 4 true s.eiPending)

/-- RET at the handler brings execution back to the instruction after the SWI or the undefined opcode. From
60_exceptions.md R404, 60_exceptions.md R405. R405 is marked in the spec as its own inference from other rules.
The model's own: the sample list (logs 2, 3), the canonical memory (log 4), bytes given to exec (log 8). -/
def Obligations.ReturnFromTrapResumes : Prop :=
  ∀ (x : Oct) (s : State), s.Undisturbed → s.mem.wf = true →
    (∃ t u, exec .swi s = .next t ∧ t.pc = 0x0008#16 ∧ exec .ret t = .next u ∧ u.pc = s.pcAfter 1 ∧ u.sp = s.sp ∧
      u.regs = s.regs ∧ u.flags = s.flags) ∧
    (∃ t u, exec (.undTrap x) s = .next t ∧ t.pc = 0x0010#16 ∧ exec .ret t = .next u ∧ u.pc = s.pcAfter 1 ∧ u.sp = s.sp ∧
      u.regs = s.regs ∧ u.flags = s.flags)

/-- SWI and the TRAP-class opcodes push the address after the opcode and go to 0x0008 or 0x0010; IME is kept. From
46_system.md R340, 46_system.md R345, 60_exceptions.md R404, 60_exceptions.md R401. The model's own: the cycle
log (log 5), the sample list (logs 2, 3), the canonical memory (log 4), bytes given to exec (log 8). -/
def Obligations.SoftwareTraps : Prop :=
  ∀ (x : Oct) (s : State), s.Undisturbed → s.mem.wf = true →
    (∃ t, exec .swi s = .next t ∧ RegsKept s t ∧ t.flags = s.flags ∧ Pushed s t (s.pcAfter 1) ∧ t.pc = 0x0008#16 ∧
      RanInstr s t .swi (.idle none :: s.pushes (s.pcAfter 1))) ∧
    (∃ t, exec (.undTrap x) s = .next t ∧ RegsKept s t ∧ t.flags = s.flags ∧ Pushed s t (s.pcAfter 1) ∧ t.pc = 0x0010#16 ∧
      RanInstr s t (.undTrap x) (.idle none :: s.pushes (s.pcAfter 1)))

/-- NOP and the four ALIAS opcodes change nothing but PC, with an ordinary poll point. From 46_system.md R330,
46_system.md R343. The model's own: the cycle log (log 5), the sample list (logs 2, 3), the canonical memory
(log 4), bytes given to exec (log 8). -/
def Obligations.NopAndAliases : Prop :=
  ∀ (i : Instr) (s : State), i ∈ [Instr.nop, .undAliasD3, .undAliasDB, .undAliasE3, .undAliasEB] → s.Undisturbed →
    ∃ t, exec i s = .next t ∧ RegsKept s t ∧ t.flags = s.flags ∧ t.sp = s.sp ∧ MemKept s t ∧ t.pc = s.pcAfter 1 ∧ RanInstr s t i []

/-- The LOCK opcodes set locked and have no poll point. From 46_system.md R344, 40_sequencer.md R175. The model's
own: the cycle log (log 5), the sample list (logs 2, 3), the canonical memory (log 4), bytes given to exec (log
8). -/
def Obligations.LockOpcodesFreeze : Prop :=
  ∀ (i : Instr) (s : State), i ∈ [Instr.undLockDD, .undLockED, .undLockFD] → s.Undisturbed →
    ∃ t, exec i s = .next t ∧ t.locked = true ∧ RegsKept s t ∧ t.flags = s.flags ∧ t.sp = s.sp ∧ MemKept s t ∧ t.pc = s.pcAfter 1 ∧ t.ime = s.ime ∧ t.eiPending = s.eiPending ∧
      t.irqDetected = s.irqDetected ∧ t.halted = s.halted ∧ Ran s t (s.fetches 0 (encode i))

/-- RLC RRC RL RR SLA SRA SWAP SRL on a register and on the byte at HL. From 47_prefixed.md R360, 47_prefixed.md
R361, 47_prefixed.md R362, 47_prefixed.md R363, 47_prefixed.md R364, 47_prefixed.md R365, 47_prefixed.md R366,
47_prefixed.md R367, 47_prefixed.md R368. The model's own: the cycle log (log 5), the sample list (logs 2, 3),
the canonical memory (log 4), bytes given to exec (log 8). -/
def Obligations.RotateAndShift : Prop :=
  ∀ (op : ShiftOp) (r : Reg) (s : State), s.Undisturbed → s.mem.wf = true →
    (∃ t, exec (shiftOnReg r op) s = .next t ∧ (t.readReg r, t.flags) = shiftResult op (s.readReg r) s.flags.cf ∧
      RegsKeptBut s t r ∧ t.sp = s.sp ∧ t.pc = s.pcAfter 2 ∧ MemKept s t ∧ RanInstr s t (shiftOnReg r op) []) ∧
    (∃ t, exec (shiftOnMem op) s = .next t ∧
      (t.mem.read s.hl, t.flags) = shiftResult op (s.mem.read s.hl) s.flags.cf ∧ MemKeptBut s t [s.hl] ∧
      RegsKept s t ∧ t.sp = s.sp ∧ t.pc = s.pcAfter 2 ∧
      RanInstr s t (shiftOnMem op)
        [.read s.hl (s.mem.read s.hl), .write s.hl (shiftResult op (s.mem.read s.hl) s.flags.cf).1])

/-- BIT b,r and BIT b,(HL): ZF is whether the bit is 0, nothing else is written. From 47_prefixed.md R360,
47_prefixed.md R369. The model's own: the cycle log (log 5), the sample list (logs 2, 3), the canonical memory
(log 4), bytes given to exec (log 8). -/
def Obligations.TestBit : Prop :=
  ∀ (b : Oct) (r : Reg) (s : State), s.Undisturbed →
    (∃ t, exec (.bitR b r) s = .next t ∧ t.flags = { s.flags with zf := !(s.readReg r).getLsbD b.number } ∧
      RegsKept s t ∧ t.sp = s.sp ∧ t.pc = s.pcAfter 2 ∧ MemKept s t ∧ RanInstr s t (.bitR b r) []) ∧
    (∃ t, exec (.bitM b) s = .next t ∧ t.flags = { s.flags with zf := !(s.mem.read s.hl).getLsbD b.number } ∧
      RegsKept s t ∧ t.sp = s.sp ∧ t.pc = s.pcAfter 2 ∧ MemKept s t ∧
      RanInstr s t (.bitM b) [.read s.hl (s.mem.read s.hl)])

/-- RES b and SET b on a register and on the byte at HL: that one bit, no flag. From 47_prefixed.md R360,
47_prefixed.md R370, 47_prefixed.md R371. The model's own: the cycle log (log 5), the sample list (logs 2, 3),
the canonical memory (log 4), bytes given to exec (log 8). -/
def Obligations.ClearAndSetBit : Prop :=
  ∀ (b : Oct) (r : Reg) (s : State), s.Undisturbed → s.mem.wf = true →
    (∃ t, exec (.resR b r) s = .next t ∧
      (∀ k, (t.readReg r).getLsbD k = (decide (k ≠ b.number) && (s.readReg r).getLsbD k)) ∧
      RegsKeptBut s t r ∧ t.flags = s.flags ∧ t.sp = s.sp ∧ t.pc = s.pcAfter 2 ∧ MemKept s t ∧ RanInstr s t (.resR b r) []) ∧
    (∃ t, exec (.setR b r) s = .next t ∧
      (∀ k, (t.readReg r).getLsbD k = (decide (k = b.number) || (s.readReg r).getLsbD k)) ∧
      RegsKeptBut s t r ∧ t.flags = s.flags ∧ t.sp = s.sp ∧ t.pc = s.pcAfter 2 ∧ MemKept s t ∧ RanInstr s t (.setR b r) []) ∧
    (∃ t, exec (.resM b) s = .next t ∧
      (∀ k, (t.mem.read s.hl).getLsbD k = (decide (k ≠ b.number) && (s.mem.read s.hl).getLsbD k)) ∧
      MemKeptBut s t [s.hl] ∧ RegsKept s t ∧ t.flags = s.flags ∧ t.sp = s.sp ∧ t.pc = s.pcAfter 2 ∧
      RanInstr s t (.resM b) [.read s.hl (s.mem.read s.hl), .write s.hl (t.mem.read s.hl)]) ∧
    (∃ t, exec (.setM b) s = .next t ∧
      (∀ k, (t.mem.read s.hl).getLsbD k = (decide (k = b.number) || (s.mem.read s.hl).getLsbD k)) ∧
      MemKeptBut s t [s.hl] ∧ RegsKept s t ∧ t.flags = s.flags ∧ t.sp = s.sp ∧ t.pc = s.pcAfter 2 ∧
      RanInstr s t (.setM b) [.read s.hl (s.mem.read s.hl), .write s.hl (t.mem.read s.hl)])

/-- The prefix byte runs the instruction of the prefixed table that the byte after it selects. From 30_encoding.md
R120, 30_encoding.md R122, 40_sequencer.md R171. The model's own: the sample list (logs 2, 3), bytes given to
exec (log 8). -/
def Obligations.PrefixByteRunsPrefixedInstruction : Prop :=
  ∀ s : State, ∃ t, exec .prefixByte s = .next t ∧ exec (decodePrefixed (s.instrByte 1)) s = .next t ∧
    WellFormed (decodePrefixed (s.instrByte 1)) = true

/-- A read returns the last byte written there; other addresses keep theirs; the canonical form is kept. From
20_memory.md R93, 20_memory.md R64. The model's own: the canonical memory (log 4). -/
def Obligations.MemoryReadsLastWrite : Prop :=
  (∀ (m : Memory) (a b : Word) (v : Byte), m.wf = true →
    (m.write a v).read a = v ∧ (b ≠ a → (m.write a v).read b = m.read b) ∧ (m.write a v).wf = true) ∧
  (∀ m n : Memory, m.wf = true → n.wf = true → m.filler = n.filler → (∀ a, m.read a = n.read a) → m = n)
end

