-- ==== Sys2Proof/Laws/Memory.lean ====
section
/-! SUPPORT. The memory operations: what a read finds after a write, and the canonical form they keep
(20_memory.md R70, R93). -/

namespace Sys2Proof.Machine

/-- A sorted list from a higher bound is sorted from a lower one. -/
theorem Memory.sorted_mono {filler : Byte} {cells : List Host.Cell} {lo lo' : Nat} (h : lo ≤ lo')
    (hs : Memory.sorted filler lo' cells = true) : Memory.sorted filler lo cells = true := by
  cases cells with
  | nil => rfl
  | cons c rest =>
    obtain ⟨k, v⟩ := c
    simp only [Memory.sorted, Bool.and_eq_true, decide_eq_true_eq] at hs ⊢
    exact ⟨⟨⟨by omega, hs.1.1.2⟩, hs.1.2⟩, hs.2⟩

/-- A store keeps the cells sorted, in range and free of filler. -/
theorem Memory.sorted_store {filler v : Byte} {k : Nat} (hk : k < 65536) :
    ∀ {cells : List Host.Cell} {lo : Nat}, lo ≤ k → Memory.sorted filler lo cells = true →
      Memory.sorted filler lo (Memory.store filler k v cells) = true := by
  intro cells
  induction cells with
  | nil =>
    intro lo hlo _
    simp only [Memory.store]
    split
    · rfl
    · simp only [Memory.sorted, Bool.and_eq_true, decide_eq_true_eq, bne_iff_ne, ne_eq]
      exact ⟨⟨⟨hlo, hk⟩, by assumption⟩, trivial⟩
  | cons c rest ih =>
    obtain ⟨j, u⟩ := c
    intro lo hlo hs
    have hs' := hs
    simp only [Memory.sorted, Bool.and_eq_true, decide_eq_true_eq, bne_iff_ne, ne_eq] at hs'
    obtain ⟨⟨⟨h1, h2⟩, h3⟩, h4⟩ := hs'
    simp only [Memory.store]
    split
    · split
      · exact hs
      · simp only [Memory.sorted, Bool.and_eq_true, decide_eq_true_eq, bne_iff_ne, ne_eq]
        exact ⟨⟨⟨hlo, hk⟩, by assumption⟩, ⟨⟨⟨by omega, h2⟩, h3⟩, h4⟩⟩
    · split
      · split
        · exact Memory.sorted_mono (by omega) h4
        · simp only [Memory.sorted, Bool.and_eq_true, decide_eq_true_eq, bne_iff_ne, ne_eq]
          exact ⟨⟨⟨hlo, hk⟩, by assumption⟩, by subst k; exact h4⟩
      · simp only [Memory.sorted, Bool.and_eq_true, decide_eq_true_eq, bne_iff_ne, ne_eq]
        exact ⟨⟨⟨h1, h2⟩, h3⟩, ih (by omega) h4⟩

/-- An address below every listed one reads as the filler. -/
theorem Memory.lookup_below {filler : Byte} {cells : List Host.Cell} {lo k : Nat} (hk : k < lo)
    (hs : Memory.sorted filler lo cells = true) : Memory.lookup filler cells k = filler := by
  induction cells generalizing lo with
  | nil => rfl
  | cons c rest ih =>
    obtain ⟨j, u⟩ := c
    simp only [Memory.sorted, Bool.and_eq_true, decide_eq_true_eq] at hs
    simp only [Memory.lookup]
    rw [if_neg (by omega)]
    exact ih (by omega) hs.2

/-- What every address reads as after a store. -/
theorem Memory.lookup_store {filler v : Byte} {k a : Nat} :
    ∀ {cells : List Host.Cell} {lo : Nat}, Memory.sorted filler lo cells = true →
      Memory.lookup filler (Memory.store filler k v cells) a =
        if a = k then v else Memory.lookup filler cells a := by
  intro cells
  induction cells with
  | nil =>
    intro lo _
    simp only [Memory.store]
    by_cases h : v = filler
    · simp [h, Memory.lookup]
    · simp only [h, if_false, Memory.lookup]
      by_cases ha : a = k
      · simp [ha]
      · simp [ha, Ne.symm ha]
  | cons c rest ih =>
    obtain ⟨j, u⟩ := c
    intro lo hs
    have hs' := hs
    simp only [Memory.sorted, Bool.and_eq_true, decide_eq_true_eq, bne_iff_ne, ne_eq] at hs'
    obtain ⟨⟨⟨h1, h2⟩, h3⟩, h4⟩ := hs'
    simp only [Memory.store]
    by_cases hkj : k < j
    · rw [if_pos hkj]
      have hb : Memory.lookup filler rest k = filler := Memory.lookup_below (by omega) h4
      by_cases hv : v = filler
      · rw [if_pos hv]
        by_cases ha : a = k
        · subst a
          simp only [Memory.lookup, if_true]
          rw [if_neg (by omega), hb, hv]
        · rw [if_neg ha]
      · rw [if_neg hv]
        by_cases ha : a = k
        · simp [Memory.lookup, ha]
        · simp [Memory.lookup, ha, Ne.symm ha]
    · rw [if_neg hkj]
      by_cases hj : k = j
      · subst j
        rw [if_pos rfl]
        by_cases hv : v = filler
        · rw [if_pos hv]
          by_cases ha : a = k
          · subst a
            rw [if_pos rfl, hv]
            exact Memory.lookup_below (by omega) h4
          · simp [Memory.lookup, ha, Ne.symm ha]
        · rw [if_neg hv]
          by_cases ha : a = k
          · simp [Memory.lookup, ha]
          · simp [Memory.lookup, ha, Ne.symm ha]
      · rw [if_neg hj]
        simp only [Memory.lookup]
        by_cases ha : j = a
        · subst j
          rw [if_pos rfl, if_pos rfl, if_neg (by omega)]
        · rw [if_neg ha, if_neg ha]
          exact ih h4

/-- A read after a write: the byte written there, the old byte elsewhere (20_memory.md R93). -/
theorem Memory.read_write {m : Memory} (h : m.wf = true) (a b : Word) (v : Byte) :
    (m.write a v).read b = if b = a then v else m.read b := by
  simp only [Memory.read, Memory.write]
  rw [Memory.lookup_store (lo := 0) h]
  by_cases hb : b = a
  · simp [hb]
  · rw [if_neg hb, if_neg (fun e => hb (BitVec.eq_of_toNat_eq e))]

/-- A write keeps the canonical form. -/
theorem Memory.wf_write {m : Memory} (h : m.wf = true) (a : Word) (v : Byte) : (m.write a v).wf = true :=
  Memory.sorted_store (lo := 0) a.isLt (Nat.zero_le _) h

/-- Several writes keep the canonical form. -/
theorem Memory.wf_writeAll {m : Memory} (h : m.wf = true) (l : List (Word × Byte)) : (m.writeAll l).wf = true := by
  induction l generalizing m with
  | nil => exact h
  | cons c rest ih => exact ih (Memory.wf_write h c.1 c.2)

@[simp] theorem Memory.writeAll_nil (m : Memory) : m.writeAll [] = m := rfl

@[simp] theorem Memory.writeAll_cons (m : Memory) (a : Word) (v : Byte) (l : List (Word × Byte)) :
    m.writeAll ((a, v) :: l) = (m.write a v).writeAll l := rfl

@[simp] theorem Memory.write_filler (m : Memory) (a : Word) (v : Byte) : (m.write a v).filler = m.filler := rfl

@[simp] theorem Memory.writeAll_filler (m : Memory) (l : List (Word × Byte)) :
    (m.writeAll l).filler = m.filler := by
  induction l generalizing m with
  | nil => rfl
  | cons c rest ih => exact (ih (m := m.write c.1 c.2))

/-- The memory of the reset state is in canonical form. -/
theorem Memory.wf_reset : State.reset.mem.wf = true := rfl

end Sys2Proof.Machine
end

