-- ==== Sys2Proof/Laws/State.lean ====
section
/-! SUPPORT. What each single update of the state does to each field (10_state.md R20), one lemma per field. -/

namespace Sys2Proof.Machine


/-! ### `setFlags` -/

@[simp] theorem State.setFlags_regs (s : State) (f : Flags) : (s.setFlags f).regs = s.regs := rfl
@[simp] theorem State.setFlags_flags (s : State) (f : Flags) : (s.setFlags f).flags = f := rfl
@[simp] theorem State.setFlags_pc (s : State) (f : Flags) : (s.setFlags f).pc = s.pc := rfl
@[simp] theorem State.setFlags_sp (s : State) (f : Flags) : (s.setFlags f).sp = s.sp := rfl
@[simp] theorem State.setFlags_ime (s : State) (f : Flags) : (s.setFlags f).ime = s.ime := rfl
@[simp] theorem State.setFlags_seq (s : State) (f : Flags) : (s.setFlags f).seq = s.seq := rfl
@[simp] theorem State.setFlags_halted (s : State) (f : Flags) : (s.setFlags f).halted = s.halted := rfl
@[simp] theorem State.setFlags_locked (s : State) (f : Flags) : (s.setFlags f).locked = s.locked := rfl
@[simp] theorem State.setFlags_eiPending (s : State) (f : Flags) : (s.setFlags f).eiPending = s.eiPending := rfl
@[simp] theorem State.setFlags_haltBug (s : State) (f : Flags) : (s.setFlags f).haltBug = s.haltBug := rfl
@[simp] theorem State.setFlags_irqDetected (s : State) (f : Flags) : (s.setFlags f).irqDetected = s.irqDetected := rfl
@[simp] theorem State.setFlags_mem (s : State) (f : Flags) : (s.setFlags f).mem = s.mem := rfl
@[simp] theorem State.setFlags_inputs (s : State) (f : Flags) : (s.setFlags f).inputs = s.inputs := rfl
@[simp] theorem State.setFlags_log (s : State) (f : Flags) : (s.setFlags f).log = s.log := rfl

/-! ### `setPC` -/

@[simp] theorem State.setPC_regs (s : State) (v : Word) : (s.setPC v).regs = s.regs := rfl
@[simp] theorem State.setPC_flags (s : State) (v : Word) : (s.setPC v).flags = s.flags := rfl
@[simp] theorem State.setPC_pc (s : State) (v : Word) : (s.setPC v).pc = v := rfl
@[simp] theorem State.setPC_sp (s : State) (v : Word) : (s.setPC v).sp = s.sp := rfl
@[simp] theorem State.setPC_ime (s : State) (v : Word) : (s.setPC v).ime = s.ime := rfl
@[simp] theorem State.setPC_seq (s : State) (v : Word) : (s.setPC v).seq = s.seq := rfl
@[simp] theorem State.setPC_halted (s : State) (v : Word) : (s.setPC v).halted = s.halted := rfl
@[simp] theorem State.setPC_locked (s : State) (v : Word) : (s.setPC v).locked = s.locked := rfl
@[simp] theorem State.setPC_eiPending (s : State) (v : Word) : (s.setPC v).eiPending = s.eiPending := rfl
@[simp] theorem State.setPC_haltBug (s : State) (v : Word) : (s.setPC v).haltBug = s.haltBug := rfl
@[simp] theorem State.setPC_irqDetected (s : State) (v : Word) : (s.setPC v).irqDetected = s.irqDetected := rfl
@[simp] theorem State.setPC_mem (s : State) (v : Word) : (s.setPC v).mem = s.mem := rfl
@[simp] theorem State.setPC_inputs (s : State) (v : Word) : (s.setPC v).inputs = s.inputs := rfl
@[simp] theorem State.setPC_log (s : State) (v : Word) : (s.setPC v).log = s.log := rfl

/-! ### `setSP` -/

@[simp] theorem State.setSP_regs (s : State) (v : Word) : (s.setSP v).regs = s.regs := rfl
@[simp] theorem State.setSP_flags (s : State) (v : Word) : (s.setSP v).flags = s.flags := rfl
@[simp] theorem State.setSP_pc (s : State) (v : Word) : (s.setSP v).pc = s.pc := rfl
@[simp] theorem State.setSP_sp (s : State) (v : Word) : (s.setSP v).sp = v := rfl
@[simp] theorem State.setSP_ime (s : State) (v : Word) : (s.setSP v).ime = s.ime := rfl
@[simp] theorem State.setSP_seq (s : State) (v : Word) : (s.setSP v).seq = s.seq := rfl
@[simp] theorem State.setSP_halted (s : State) (v : Word) : (s.setSP v).halted = s.halted := rfl
@[simp] theorem State.setSP_locked (s : State) (v : Word) : (s.setSP v).locked = s.locked := rfl
@[simp] theorem State.setSP_eiPending (s : State) (v : Word) : (s.setSP v).eiPending = s.eiPending := rfl
@[simp] theorem State.setSP_haltBug (s : State) (v : Word) : (s.setSP v).haltBug = s.haltBug := rfl
@[simp] theorem State.setSP_irqDetected (s : State) (v : Word) : (s.setSP v).irqDetected = s.irqDetected := rfl
@[simp] theorem State.setSP_mem (s : State) (v : Word) : (s.setSP v).mem = s.mem := rfl
@[simp] theorem State.setSP_inputs (s : State) (v : Word) : (s.setSP v).inputs = s.inputs := rfl
@[simp] theorem State.setSP_log (s : State) (v : Word) : (s.setSP v).log = s.log := rfl

/-! ### `setIME` -/

@[simp] theorem State.setIME_regs (s : State) (v : Bool) : (s.setIME v).regs = s.regs := rfl
@[simp] theorem State.setIME_flags (s : State) (v : Bool) : (s.setIME v).flags = s.flags := rfl
@[simp] theorem State.setIME_pc (s : State) (v : Bool) : (s.setIME v).pc = s.pc := rfl
@[simp] theorem State.setIME_sp (s : State) (v : Bool) : (s.setIME v).sp = s.sp := rfl
@[simp] theorem State.setIME_ime (s : State) (v : Bool) : (s.setIME v).ime = v := rfl
@[simp] theorem State.setIME_seq (s : State) (v : Bool) : (s.setIME v).seq = s.seq := rfl
@[simp] theorem State.setIME_halted (s : State) (v : Bool) : (s.setIME v).halted = s.halted := rfl
@[simp] theorem State.setIME_locked (s : State) (v : Bool) : (s.setIME v).locked = s.locked := rfl
@[simp] theorem State.setIME_eiPending (s : State) (v : Bool) : (s.setIME v).eiPending = s.eiPending := rfl
@[simp] theorem State.setIME_haltBug (s : State) (v : Bool) : (s.setIME v).haltBug = s.haltBug := rfl
@[simp] theorem State.setIME_irqDetected (s : State) (v : Bool) : (s.setIME v).irqDetected = s.irqDetected := rfl
@[simp] theorem State.setIME_mem (s : State) (v : Bool) : (s.setIME v).mem = s.mem := rfl
@[simp] theorem State.setIME_inputs (s : State) (v : Bool) : (s.setIME v).inputs = s.inputs := rfl
@[simp] theorem State.setIME_log (s : State) (v : Bool) : (s.setIME v).log = s.log := rfl

/-! ### `setZ` -/

@[simp] theorem State.setZ_regs (s : State) (v : Byte) : (s.setZ v).regs = s.regs := rfl
@[simp] theorem State.setZ_flags (s : State) (v : Byte) : (s.setZ v).flags = s.flags := rfl
@[simp] theorem State.setZ_pc (s : State) (v : Byte) : (s.setZ v).pc = s.pc := rfl
@[simp] theorem State.setZ_sp (s : State) (v : Byte) : (s.setZ v).sp = s.sp := rfl
@[simp] theorem State.setZ_ime (s : State) (v : Byte) : (s.setZ v).ime = s.ime := rfl
@[simp] theorem State.setZ_seq (s : State) (v : Byte) : (s.setZ v).seq = { s.seq with z := v } := rfl
@[simp] theorem State.setZ_halted (s : State) (v : Byte) : (s.setZ v).halted = s.halted := rfl
@[simp] theorem State.setZ_locked (s : State) (v : Byte) : (s.setZ v).locked = s.locked := rfl
@[simp] theorem State.setZ_eiPending (s : State) (v : Byte) : (s.setZ v).eiPending = s.eiPending := rfl
@[simp] theorem State.setZ_haltBug (s : State) (v : Byte) : (s.setZ v).haltBug = s.haltBug := rfl
@[simp] theorem State.setZ_irqDetected (s : State) (v : Byte) : (s.setZ v).irqDetected = s.irqDetected := rfl
@[simp] theorem State.setZ_mem (s : State) (v : Byte) : (s.setZ v).mem = s.mem := rfl
@[simp] theorem State.setZ_inputs (s : State) (v : Byte) : (s.setZ v).inputs = s.inputs := rfl
@[simp] theorem State.setZ_log (s : State) (v : Byte) : (s.setZ v).log = s.log := rfl

/-! ### `setW` -/

@[simp] theorem State.setW_regs (s : State) (v : Byte) : (s.setW v).regs = s.regs := rfl
@[simp] theorem State.setW_flags (s : State) (v : Byte) : (s.setW v).flags = s.flags := rfl
@[simp] theorem State.setW_pc (s : State) (v : Byte) : (s.setW v).pc = s.pc := rfl
@[simp] theorem State.setW_sp (s : State) (v : Byte) : (s.setW v).sp = s.sp := rfl
@[simp] theorem State.setW_ime (s : State) (v : Byte) : (s.setW v).ime = s.ime := rfl
@[simp] theorem State.setW_seq (s : State) (v : Byte) : (s.setW v).seq = { s.seq with w := v } := rfl
@[simp] theorem State.setW_halted (s : State) (v : Byte) : (s.setW v).halted = s.halted := rfl
@[simp] theorem State.setW_locked (s : State) (v : Byte) : (s.setW v).locked = s.locked := rfl
@[simp] theorem State.setW_eiPending (s : State) (v : Byte) : (s.setW v).eiPending = s.eiPending := rfl
@[simp] theorem State.setW_haltBug (s : State) (v : Byte) : (s.setW v).haltBug = s.haltBug := rfl
@[simp] theorem State.setW_irqDetected (s : State) (v : Byte) : (s.setW v).irqDetected = s.irqDetected := rfl
@[simp] theorem State.setW_mem (s : State) (v : Byte) : (s.setW v).mem = s.mem := rfl
@[simp] theorem State.setW_inputs (s : State) (v : Byte) : (s.setW v).inputs = s.inputs := rfl
@[simp] theorem State.setW_log (s : State) (v : Byte) : (s.setW v).log = s.log := rfl

/-! ### `setMem` -/

@[simp] theorem State.setMem_regs (s : State) (m : Memory) : (s.setMem m).regs = s.regs := rfl
@[simp] theorem State.setMem_flags (s : State) (m : Memory) : (s.setMem m).flags = s.flags := rfl
@[simp] theorem State.setMem_pc (s : State) (m : Memory) : (s.setMem m).pc = s.pc := rfl
@[simp] theorem State.setMem_sp (s : State) (m : Memory) : (s.setMem m).sp = s.sp := rfl
@[simp] theorem State.setMem_ime (s : State) (m : Memory) : (s.setMem m).ime = s.ime := rfl
@[simp] theorem State.setMem_seq (s : State) (m : Memory) : (s.setMem m).seq = s.seq := rfl
@[simp] theorem State.setMem_halted (s : State) (m : Memory) : (s.setMem m).halted = s.halted := rfl
@[simp] theorem State.setMem_locked (s : State) (m : Memory) : (s.setMem m).locked = s.locked := rfl
@[simp] theorem State.setMem_eiPending (s : State) (m : Memory) : (s.setMem m).eiPending = s.eiPending := rfl
@[simp] theorem State.setMem_haltBug (s : State) (m : Memory) : (s.setMem m).haltBug = s.haltBug := rfl
@[simp] theorem State.setMem_irqDetected (s : State) (m : Memory) : (s.setMem m).irqDetected = s.irqDetected := rfl
@[simp] theorem State.setMem_mem (s : State) (m : Memory) : (s.setMem m).mem = m := rfl
@[simp] theorem State.setMem_inputs (s : State) (m : Memory) : (s.setMem m).inputs = s.inputs := rfl
@[simp] theorem State.setMem_log (s : State) (m : Memory) : (s.setMem m).log = s.log := rfl

/-! ### `record` -/

@[simp] theorem State.record_regs (s : State) (c : BusCycle) : (s.record c).regs = s.regs := rfl
@[simp] theorem State.record_flags (s : State) (c : BusCycle) : (s.record c).flags = s.flags := rfl
@[simp] theorem State.record_pc (s : State) (c : BusCycle) : (s.record c).pc = s.pc := rfl
@[simp] theorem State.record_sp (s : State) (c : BusCycle) : (s.record c).sp = s.sp := rfl
@[simp] theorem State.record_ime (s : State) (c : BusCycle) : (s.record c).ime = s.ime := rfl
@[simp] theorem State.record_seq (s : State) (c : BusCycle) : (s.record c).seq = s.seq := rfl
@[simp] theorem State.record_halted (s : State) (c : BusCycle) : (s.record c).halted = s.halted := rfl
@[simp] theorem State.record_locked (s : State) (c : BusCycle) : (s.record c).locked = s.locked := rfl
@[simp] theorem State.record_eiPending (s : State) (c : BusCycle) : (s.record c).eiPending = s.eiPending := rfl
@[simp] theorem State.record_haltBug (s : State) (c : BusCycle) : (s.record c).haltBug = s.haltBug := rfl
@[simp] theorem State.record_irqDetected (s : State) (c : BusCycle) : (s.record c).irqDetected = s.irqDetected := rfl
@[simp] theorem State.record_mem (s : State) (c : BusCycle) : (s.record c).mem = s.mem := rfl
@[simp] theorem State.record_inputs (s : State) (c : BusCycle) : (s.record c).inputs = s.inputs := rfl
@[simp] theorem State.record_log (s : State) (c : BusCycle) : (s.record c).log = c :: s.log := rfl

/-! ### `sawRead` -/

@[simp] theorem State.sawRead_regs (s : State) (a : Word) (v : Byte) : (s.sawRead a v).regs = s.regs := rfl
@[simp] theorem State.sawRead_flags (s : State) (a : Word) (v : Byte) : (s.sawRead a v).flags = s.flags := rfl
@[simp] theorem State.sawRead_pc (s : State) (a : Word) (v : Byte) : (s.sawRead a v).pc = s.pc := rfl
@[simp] theorem State.sawRead_sp (s : State) (a : Word) (v : Byte) : (s.sawRead a v).sp = s.sp := rfl
@[simp] theorem State.sawRead_ime (s : State) (a : Word) (v : Byte) : (s.sawRead a v).ime = s.ime := rfl
@[simp] theorem State.sawRead_seq (s : State) (a : Word) (v : Byte) : (s.sawRead a v).seq = s.seq := rfl
@[simp] theorem State.sawRead_halted (s : State) (a : Word) (v : Byte) : (s.sawRead a v).halted = s.halted := rfl
@[simp] theorem State.sawRead_locked (s : State) (a : Word) (v : Byte) : (s.sawRead a v).locked = s.locked := rfl
@[simp] theorem State.sawRead_eiPending (s : State) (a : Word) (v : Byte) : (s.sawRead a v).eiPending = s.eiPending := rfl
@[simp] theorem State.sawRead_haltBug (s : State) (a : Word) (v : Byte) : (s.sawRead a v).haltBug = s.haltBug := rfl
@[simp] theorem State.sawRead_irqDetected (s : State) (a : Word) (v : Byte) : (s.sawRead a v).irqDetected = s.irqDetected := rfl
@[simp] theorem State.sawRead_mem (s : State) (a : Word) (v : Byte) : (s.sawRead a v).mem = s.mem := rfl
@[simp] theorem State.sawRead_inputs (s : State) (a : Word) (v : Byte) : (s.sawRead a v).inputs = s.inputs := rfl
@[simp] theorem State.sawRead_log (s : State) (a : Word) (v : Byte) : (s.sawRead a v).log = .read a v :: s.log := rfl

/-! ### `busWrite` -/

@[simp] theorem State.busWrite_regs (s : State) (a : Word) (v : Byte) : (s.busWrite a v).regs = s.regs := rfl
@[simp] theorem State.busWrite_flags (s : State) (a : Word) (v : Byte) : (s.busWrite a v).flags = s.flags := rfl
@[simp] theorem State.busWrite_pc (s : State) (a : Word) (v : Byte) : (s.busWrite a v).pc = s.pc := rfl
@[simp] theorem State.busWrite_sp (s : State) (a : Word) (v : Byte) : (s.busWrite a v).sp = s.sp := rfl
@[simp] theorem State.busWrite_ime (s : State) (a : Word) (v : Byte) : (s.busWrite a v).ime = s.ime := rfl
@[simp] theorem State.busWrite_seq (s : State) (a : Word) (v : Byte) : (s.busWrite a v).seq = s.seq := rfl
@[simp] theorem State.busWrite_halted (s : State) (a : Word) (v : Byte) : (s.busWrite a v).halted = s.halted := rfl
@[simp] theorem State.busWrite_locked (s : State) (a : Word) (v : Byte) : (s.busWrite a v).locked = s.locked := rfl
@[simp] theorem State.busWrite_eiPending (s : State) (a : Word) (v : Byte) : (s.busWrite a v).eiPending = s.eiPending := rfl
@[simp] theorem State.busWrite_haltBug (s : State) (a : Word) (v : Byte) : (s.busWrite a v).haltBug = s.haltBug := rfl
@[simp] theorem State.busWrite_irqDetected (s : State) (a : Word) (v : Byte) : (s.busWrite a v).irqDetected = s.irqDetected := rfl
@[simp] theorem State.busWrite_mem (s : State) (a : Word) (v : Byte) : (s.busWrite a v).mem = s.mem.write a v := rfl
@[simp] theorem State.busWrite_inputs (s : State) (a : Word) (v : Byte) : (s.busWrite a v).inputs = s.inputs := rfl
@[simp] theorem State.busWrite_log (s : State) (a : Word) (v : Byte) : (s.busWrite a v).log = .write a v :: s.log := rfl

/-! ### `latchOpcode` -/

@[simp] theorem State.latchOpcode_regs (s : State) (b : Byte) : (s.latchOpcode b).regs = s.regs := rfl
@[simp] theorem State.latchOpcode_flags (s : State) (b : Byte) : (s.latchOpcode b).flags = s.flags := rfl
@[simp] theorem State.latchOpcode_pc (s : State) (b : Byte) : (s.latchOpcode b).pc = s.opcodePC := rfl
@[simp] theorem State.latchOpcode_sp (s : State) (b : Byte) : (s.latchOpcode b).sp = s.sp := rfl
@[simp] theorem State.latchOpcode_ime (s : State) (b : Byte) : (s.latchOpcode b).ime = s.ime := rfl
@[simp] theorem State.latchOpcode_seq (s : State) (b : Byte) : (s.latchOpcode b).seq = { s.seq with ir := b } := rfl
@[simp] theorem State.latchOpcode_halted (s : State) (b : Byte) : (s.latchOpcode b).halted = s.halted := rfl
@[simp] theorem State.latchOpcode_locked (s : State) (b : Byte) : (s.latchOpcode b).locked = s.locked := rfl
@[simp] theorem State.latchOpcode_eiPending (s : State) (b : Byte) : (s.latchOpcode b).eiPending = s.eiPending := rfl
@[simp] theorem State.latchOpcode_haltBug (s : State) (b : Byte) : (s.latchOpcode b).haltBug = false := rfl
@[simp] theorem State.latchOpcode_irqDetected (s : State) (b : Byte) : (s.latchOpcode b).irqDetected = s.irqDetected := rfl
@[simp] theorem State.latchOpcode_mem (s : State) (b : Byte) : (s.latchOpcode b).mem = s.mem := rfl
@[simp] theorem State.latchOpcode_inputs (s : State) (b : Byte) : (s.latchOpcode b).inputs = s.inputs := rfl
@[simp] theorem State.latchOpcode_log (s : State) (b : Byte) : (s.latchOpcode b).log = s.log := rfl

/-! ### `latchPrefixed` -/

@[simp] theorem State.latchPrefixed_regs (s : State) (b : Byte) : (s.latchPrefixed b).regs = s.regs := rfl
@[simp] theorem State.latchPrefixed_flags (s : State) (b : Byte) : (s.latchPrefixed b).flags = s.flags := rfl
@[simp] theorem State.latchPrefixed_pc (s : State) (b : Byte) : (s.latchPrefixed b).pc = s.pc := rfl
@[simp] theorem State.latchPrefixed_sp (s : State) (b : Byte) : (s.latchPrefixed b).sp = s.sp := rfl
@[simp] theorem State.latchPrefixed_ime (s : State) (b : Byte) : (s.latchPrefixed b).ime = s.ime := rfl
@[simp] theorem State.latchPrefixed_seq (s : State) (b : Byte) : (s.latchPrefixed b).seq = { s.seq with ir := b, pfx := true } := rfl
@[simp] theorem State.latchPrefixed_halted (s : State) (b : Byte) : (s.latchPrefixed b).halted = s.halted := rfl
@[simp] theorem State.latchPrefixed_locked (s : State) (b : Byte) : (s.latchPrefixed b).locked = s.locked := rfl
@[simp] theorem State.latchPrefixed_eiPending (s : State) (b : Byte) : (s.latchPrefixed b).eiPending = s.eiPending := rfl
@[simp] theorem State.latchPrefixed_haltBug (s : State) (b : Byte) : (s.latchPrefixed b).haltBug = s.haltBug := rfl
@[simp] theorem State.latchPrefixed_irqDetected (s : State) (b : Byte) : (s.latchPrefixed b).irqDetected = s.irqDetected := rfl
@[simp] theorem State.latchPrefixed_mem (s : State) (b : Byte) : (s.latchPrefixed b).mem = s.mem := rfl
@[simp] theorem State.latchPrefixed_inputs (s : State) (b : Byte) : (s.latchPrefixed b).inputs = s.inputs := rfl
@[simp] theorem State.latchPrefixed_log (s : State) (b : Byte) : (s.latchPrefixed b).log = s.log := rfl

/-! ### `operate` -/

@[simp] theorem State.operate_regs (s : State) (op : AluOp) (v : Byte) : (s.operate op v).regs = { s.regs with a := (aluResult op s.regs.a v s.flags.cf).1 } := rfl
@[simp] theorem State.operate_flags (s : State) (op : AluOp) (v : Byte) : (s.operate op v).flags = (aluResult op s.regs.a v s.flags.cf).2 := rfl
@[simp] theorem State.operate_pc (s : State) (op : AluOp) (v : Byte) : (s.operate op v).pc = s.pc := rfl
@[simp] theorem State.operate_sp (s : State) (op : AluOp) (v : Byte) : (s.operate op v).sp = s.sp := rfl
@[simp] theorem State.operate_ime (s : State) (op : AluOp) (v : Byte) : (s.operate op v).ime = s.ime := rfl
@[simp] theorem State.operate_seq (s : State) (op : AluOp) (v : Byte) : (s.operate op v).seq = s.seq := rfl
@[simp] theorem State.operate_halted (s : State) (op : AluOp) (v : Byte) : (s.operate op v).halted = s.halted := rfl
@[simp] theorem State.operate_locked (s : State) (op : AluOp) (v : Byte) : (s.operate op v).locked = s.locked := rfl
@[simp] theorem State.operate_eiPending (s : State) (op : AluOp) (v : Byte) : (s.operate op v).eiPending = s.eiPending := rfl
@[simp] theorem State.operate_haltBug (s : State) (op : AluOp) (v : Byte) : (s.operate op v).haltBug = s.haltBug := rfl
@[simp] theorem State.operate_irqDetected (s : State) (op : AluOp) (v : Byte) : (s.operate op v).irqDetected = s.irqDetected := rfl
@[simp] theorem State.operate_mem (s : State) (op : AluOp) (v : Byte) : (s.operate op v).mem = s.mem := rfl
@[simp] theorem State.operate_inputs (s : State) (op : AluOp) (v : Byte) : (s.operate op v).inputs = s.inputs := rfl
@[simp] theorem State.operate_log (s : State) (op : AluOp) (v : Byte) : (s.operate op v).log = s.log := rfl

/-! ### `complete` -/

@[simp] theorem State.complete_regs (s : State) (inp : TickIn) : (s.complete inp).regs = s.regs := by
  simp only [State.complete]; split <;> rfl
@[simp] theorem State.complete_flags (s : State) (inp : TickIn) : (s.complete inp).flags = s.flags := by
  simp only [State.complete]; split <;> rfl
@[simp] theorem State.complete_pc (s : State) (inp : TickIn) : (s.complete inp).pc = s.pc := by
  simp only [State.complete]; split <;> rfl
@[simp] theorem State.complete_sp (s : State) (inp : TickIn) : (s.complete inp).sp = s.sp := by
  simp only [State.complete]; split <;> rfl
@[simp] theorem State.complete_seq (s : State) (inp : TickIn) : (s.complete inp).seq = Sequencer.rest := by
  simp only [State.complete]; split <;> rfl
@[simp] theorem State.complete_halted (s : State) (inp : TickIn) : (s.complete inp).halted = s.halted := by
  simp only [State.complete]; split <;> rfl
@[simp] theorem State.complete_locked (s : State) (inp : TickIn) : (s.complete inp).locked = s.locked := by
  simp only [State.complete]; split <;> rfl
@[simp] theorem State.complete_haltBug (s : State) (inp : TickIn) : (s.complete inp).haltBug = s.haltBug := by
  simp only [State.complete]; split <;> rfl
@[simp] theorem State.complete_mem (s : State) (inp : TickIn) : (s.complete inp).mem = s.mem := by
  simp only [State.complete]; split <;> rfl
@[simp] theorem State.complete_inputs (s : State) (inp : TickIn) : (s.complete inp).inputs = s.inputs := by
  simp only [State.complete]; split <;> rfl
@[simp] theorem State.complete_log (s : State) (inp : TickIn) : (s.complete inp).log = s.log := by
  simp only [State.complete]; split <;> rfl

/-! ### `popInput` -/

@[simp] theorem State.popInput_regs (s : State) : (s.popInput).regs = s.regs := rfl
@[simp] theorem State.popInput_flags (s : State) : (s.popInput).flags = s.flags := rfl
@[simp] theorem State.popInput_pc (s : State) : (s.popInput).pc = s.pc := rfl
@[simp] theorem State.popInput_sp (s : State) : (s.popInput).sp = s.sp := rfl
@[simp] theorem State.popInput_ime (s : State) : (s.popInput).ime = s.ime := rfl
@[simp] theorem State.popInput_seq (s : State) : (s.popInput).seq = s.seq := rfl
@[simp] theorem State.popInput_halted (s : State) : (s.popInput).halted = s.halted := rfl
@[simp] theorem State.popInput_locked (s : State) : (s.popInput).locked = s.locked := rfl
@[simp] theorem State.popInput_eiPending (s : State) : (s.popInput).eiPending = s.eiPending := rfl
@[simp] theorem State.popInput_haltBug (s : State) : (s.popInput).haltBug = s.haltBug := rfl
@[simp] theorem State.popInput_irqDetected (s : State) : (s.popInput).irqDetected = s.irqDetected := rfl
@[simp] theorem State.popInput_mem (s : State) : (s.popInput).mem = s.mem := rfl
@[simp] theorem State.popInput_inputs (s : State) : (s.popInput).inputs = s.inputs.tail := rfl
@[simp] theorem State.popInput_log (s : State) : (s.popInput).log = s.log := rfl

/-! ### `beginTick` -/

@[simp] theorem State.beginTick_regs (s : State) : (s.beginTick).regs = s.regs := rfl
@[simp] theorem State.beginTick_flags (s : State) : (s.beginTick).flags = s.flags := rfl
@[simp] theorem State.beginTick_pc (s : State) : (s.beginTick).pc = s.pc := rfl
@[simp] theorem State.beginTick_sp (s : State) : (s.beginTick).sp = s.sp := rfl
@[simp] theorem State.beginTick_ime (s : State) : (s.beginTick).ime = s.ime := rfl
@[simp] theorem State.beginTick_seq (s : State) : (s.beginTick).seq = s.seq := rfl
@[simp] theorem State.beginTick_halted (s : State) : (s.beginTick).halted = s.halted := rfl
@[simp] theorem State.beginTick_locked (s : State) : (s.beginTick).locked = s.locked := rfl
@[simp] theorem State.beginTick_eiPending (s : State) : (s.beginTick).eiPending = s.eiPending := rfl
@[simp] theorem State.beginTick_haltBug (s : State) : (s.beginTick).haltBug = s.haltBug := rfl
@[simp] theorem State.beginTick_irqDetected (s : State) : (s.beginTick).irqDetected = s.irqDetected := rfl
@[simp] theorem State.beginTick_mem (s : State) : (s.beginTick).mem = s.mem.writeAll s.input.others := rfl
@[simp] theorem State.beginTick_inputs (s : State) : (s.beginTick).inputs = s.inputs := rfl
@[simp] theorem State.beginTick_log (s : State) : (s.beginTick).log = s.log := rfl

/-! ### `startInstr` -/

@[simp] theorem State.startInstr_regs (s : State) : (s.startInstr).regs = s.regs := rfl
@[simp] theorem State.startInstr_flags (s : State) : (s.startInstr).flags = s.flags := rfl
@[simp] theorem State.startInstr_pc (s : State) : (s.startInstr).pc = s.pc := rfl
@[simp] theorem State.startInstr_sp (s : State) : (s.startInstr).sp = s.sp := rfl
@[simp] theorem State.startInstr_ime (s : State) : (s.startInstr).ime = s.ime := rfl
@[simp] theorem State.startInstr_seq (s : State) : (s.startInstr).seq = { s.seq with mode := .exec, step := 0#3, pfx := false } := rfl
@[simp] theorem State.startInstr_halted (s : State) : (s.startInstr).halted = s.halted := rfl
@[simp] theorem State.startInstr_locked (s : State) : (s.startInstr).locked = s.locked := rfl
@[simp] theorem State.startInstr_eiPending (s : State) : (s.startInstr).eiPending = s.eiPending := rfl
@[simp] theorem State.startInstr_haltBug (s : State) : (s.startInstr).haltBug = s.haltBug := rfl
@[simp] theorem State.startInstr_irqDetected (s : State) : (s.startInstr).irqDetected = s.irqDetected := rfl
@[simp] theorem State.startInstr_mem (s : State) : (s.startInstr).mem = s.mem := rfl
@[simp] theorem State.startInstr_inputs (s : State) : (s.startInstr).inputs = s.inputs := rfl
@[simp] theorem State.startInstr_log (s : State) : (s.startInstr).log = s.log := rfl

/-! ### `startService` -/

@[simp] theorem State.startService_regs (s : State) : (s.startService).regs = s.regs := rfl
@[simp] theorem State.startService_flags (s : State) : (s.startService).flags = s.flags := rfl
@[simp] theorem State.startService_pc (s : State) : (s.startService).pc = s.pc := rfl
@[simp] theorem State.startService_sp (s : State) : (s.startService).sp = s.sp := rfl
@[simp] theorem State.startService_ime (s : State) : (s.startService).ime = false := rfl
@[simp] theorem State.startService_seq (s : State) : (s.startService).seq = { s.seq with mode := .service, step := 0#3 } := rfl
@[simp] theorem State.startService_halted (s : State) : (s.startService).halted = s.halted := rfl
@[simp] theorem State.startService_locked (s : State) : (s.startService).locked = s.locked := rfl
@[simp] theorem State.startService_eiPending (s : State) : (s.startService).eiPending = s.eiPending := rfl
@[simp] theorem State.startService_haltBug (s : State) : (s.startService).haltBug = s.haltBug := rfl
@[simp] theorem State.startService_irqDetected (s : State) : (s.startService).irqDetected = false := rfl
@[simp] theorem State.startService_mem (s : State) : (s.startService).mem = s.mem := rfl
@[simp] theorem State.startService_inputs (s : State) : (s.startService).inputs = s.inputs := rfl
@[simp] theorem State.startService_log (s : State) : (s.startService).log = s.log := rfl

/-! ### `advance` -/

@[simp] theorem State.advance_regs (s : State) : (s.advance).regs = s.regs := rfl
@[simp] theorem State.advance_flags (s : State) : (s.advance).flags = s.flags := rfl
@[simp] theorem State.advance_pc (s : State) : (s.advance).pc = s.pc := rfl
@[simp] theorem State.advance_sp (s : State) : (s.advance).sp = s.sp := rfl
@[simp] theorem State.advance_ime (s : State) : (s.advance).ime = s.ime := rfl
@[simp] theorem State.advance_seq (s : State) : (s.advance).seq = { s.seq with step := s.seq.step + 1#3 } := rfl
@[simp] theorem State.advance_halted (s : State) : (s.advance).halted = s.halted := rfl
@[simp] theorem State.advance_locked (s : State) : (s.advance).locked = s.locked := rfl
@[simp] theorem State.advance_eiPending (s : State) : (s.advance).eiPending = s.eiPending := rfl
@[simp] theorem State.advance_haltBug (s : State) : (s.advance).haltBug = s.haltBug := rfl
@[simp] theorem State.advance_irqDetected (s : State) : (s.advance).irqDetected = s.irqDetected := rfl
@[simp] theorem State.advance_mem (s : State) : (s.advance).mem = s.mem := rfl
@[simp] theorem State.advance_inputs (s : State) : (s.advance).inputs = s.inputs := rfl
@[simp] theorem State.advance_log (s : State) : (s.advance).log = s.log := rfl

/-! ### `poll` -/

@[simp] theorem State.poll_regs (s : State) (inp : TickIn) : (s.poll inp).regs = s.regs := rfl
@[simp] theorem State.poll_flags (s : State) (inp : TickIn) : (s.poll inp).flags = s.flags := rfl
@[simp] theorem State.poll_pc (s : State) (inp : TickIn) : (s.poll inp).pc = s.pc := rfl
@[simp] theorem State.poll_sp (s : State) (inp : TickIn) : (s.poll inp).sp = s.sp := rfl
@[simp] theorem State.poll_ime (s : State) (inp : TickIn) : (s.poll inp).ime = (s.ime || s.eiPending) := rfl
@[simp] theorem State.poll_seq (s : State) (inp : TickIn) : (s.poll inp).seq = s.seq := rfl
@[simp] theorem State.poll_halted (s : State) (inp : TickIn) : (s.poll inp).halted = s.halted := rfl
@[simp] theorem State.poll_locked (s : State) (inp : TickIn) : (s.poll inp).locked = s.locked := rfl
@[simp] theorem State.poll_eiPending (s : State) (inp : TickIn) : (s.poll inp).eiPending = false := rfl
@[simp] theorem State.poll_haltBug (s : State) (inp : TickIn) : (s.poll inp).haltBug = s.haltBug := rfl
@[simp] theorem State.poll_irqDetected (s : State) (inp : TickIn) : (s.poll inp).irqDetected = (s.irqDetected || (s.ime && inp.irqPending)) := rfl
@[simp] theorem State.poll_mem (s : State) (inp : TickIn) : (s.poll inp).mem = s.mem := rfl
@[simp] theorem State.poll_inputs (s : State) (inp : TickIn) : (s.poll inp).inputs = s.inputs := rfl
@[simp] theorem State.poll_log (s : State) (inp : TickIn) : (s.poll inp).log = s.log := rfl

/-! ### `idleTick` -/

@[simp] theorem State.idleTick_regs (s : State) : (s.idleTick).regs = s.regs := rfl
@[simp] theorem State.idleTick_flags (s : State) : (s.idleTick).flags = s.flags := rfl
@[simp] theorem State.idleTick_pc (s : State) : (s.idleTick).pc = s.pc := rfl
@[simp] theorem State.idleTick_sp (s : State) : (s.idleTick).sp = s.sp := rfl
@[simp] theorem State.idleTick_ime (s : State) : (s.idleTick).ime = s.ime := rfl
@[simp] theorem State.idleTick_seq (s : State) : (s.idleTick).seq = s.seq := rfl
@[simp] theorem State.idleTick_halted (s : State) : (s.idleTick).halted = s.halted := rfl
@[simp] theorem State.idleTick_locked (s : State) : (s.idleTick).locked = s.locked := rfl
@[simp] theorem State.idleTick_eiPending (s : State) : (s.idleTick).eiPending = s.eiPending := rfl
@[simp] theorem State.idleTick_haltBug (s : State) : (s.idleTick).haltBug = s.haltBug := rfl
@[simp] theorem State.idleTick_irqDetected (s : State) : (s.idleTick).irqDetected = s.irqDetected := rfl
@[simp] theorem State.idleTick_mem (s : State) : (s.idleTick).mem = s.mem.writeAll s.input.others := rfl
@[simp] theorem State.idleTick_inputs (s : State) : (s.idleTick).inputs = s.inputs.tail := rfl
@[simp] theorem State.idleTick_log (s : State) : (s.idleTick).log = .idle none :: s.log := rfl

/-! ### `setA` -/

@[simp] theorem State.setA_regs (s : State) (v : Byte) : (s.setA v).regs = { s.regs with a := v } := rfl
@[simp] theorem State.setA_flags (s : State) (v : Byte) : (s.setA v).flags = s.flags := rfl
@[simp] theorem State.setA_pc (s : State) (v : Byte) : (s.setA v).pc = s.pc := rfl
@[simp] theorem State.setA_sp (s : State) (v : Byte) : (s.setA v).sp = s.sp := rfl
@[simp] theorem State.setA_ime (s : State) (v : Byte) : (s.setA v).ime = s.ime := rfl
@[simp] theorem State.setA_seq (s : State) (v : Byte) : (s.setA v).seq = s.seq := rfl
@[simp] theorem State.setA_halted (s : State) (v : Byte) : (s.setA v).halted = s.halted := rfl
@[simp] theorem State.setA_locked (s : State) (v : Byte) : (s.setA v).locked = s.locked := rfl
@[simp] theorem State.setA_eiPending (s : State) (v : Byte) : (s.setA v).eiPending = s.eiPending := rfl
@[simp] theorem State.setA_haltBug (s : State) (v : Byte) : (s.setA v).haltBug = s.haltBug := rfl
@[simp] theorem State.setA_irqDetected (s : State) (v : Byte) : (s.setA v).irqDetected = s.irqDetected := rfl
@[simp] theorem State.setA_mem (s : State) (v : Byte) : (s.setA v).mem = s.mem := rfl
@[simp] theorem State.setA_inputs (s : State) (v : Byte) : (s.setA v).inputs = s.inputs := rfl
@[simp] theorem State.setA_log (s : State) (v : Byte) : (s.setA v).log = s.log := rfl

/-! ### `writeAF` -/

@[simp] theorem State.writeAF_regs (s : State) (v : Word) : (s.writeAF v).regs = { s.regs with a := hiByte v } := rfl
@[simp] theorem State.writeAF_flags (s : State) (v : Word) : (s.writeAF v).flags = unpack (loByte v) := rfl
@[simp] theorem State.writeAF_pc (s : State) (v : Word) : (s.writeAF v).pc = s.pc := rfl
@[simp] theorem State.writeAF_sp (s : State) (v : Word) : (s.writeAF v).sp = s.sp := rfl
@[simp] theorem State.writeAF_ime (s : State) (v : Word) : (s.writeAF v).ime = s.ime := rfl
@[simp] theorem State.writeAF_seq (s : State) (v : Word) : (s.writeAF v).seq = s.seq := rfl
@[simp] theorem State.writeAF_halted (s : State) (v : Word) : (s.writeAF v).halted = s.halted := rfl
@[simp] theorem State.writeAF_locked (s : State) (v : Word) : (s.writeAF v).locked = s.locked := rfl
@[simp] theorem State.writeAF_eiPending (s : State) (v : Word) : (s.writeAF v).eiPending = s.eiPending := rfl
@[simp] theorem State.writeAF_haltBug (s : State) (v : Word) : (s.writeAF v).haltBug = s.haltBug := rfl
@[simp] theorem State.writeAF_irqDetected (s : State) (v : Word) : (s.writeAF v).irqDetected = s.irqDetected := rfl
@[simp] theorem State.writeAF_mem (s : State) (v : Word) : (s.writeAF v).mem = s.mem := rfl
@[simp] theorem State.writeAF_inputs (s : State) (v : Word) : (s.writeAF v).inputs = s.inputs := rfl
@[simp] theorem State.writeAF_log (s : State) (v : Word) : (s.writeAF v).log = s.log := rfl

/-! ### `writeReg` -/

@[simp] theorem State.writeReg_flags (s : State) (r : Reg) (v : Byte) : (s.writeReg r v).flags = s.flags := by cases r <;> rfl
@[simp] theorem State.writeReg_pc (s : State) (r : Reg) (v : Byte) : (s.writeReg r v).pc = s.pc := by cases r <;> rfl
@[simp] theorem State.writeReg_sp (s : State) (r : Reg) (v : Byte) : (s.writeReg r v).sp = s.sp := by cases r <;> rfl
@[simp] theorem State.writeReg_ime (s : State) (r : Reg) (v : Byte) : (s.writeReg r v).ime = s.ime := by cases r <;> rfl
@[simp] theorem State.writeReg_seq (s : State) (r : Reg) (v : Byte) : (s.writeReg r v).seq = s.seq := by cases r <;> rfl
@[simp] theorem State.writeReg_halted (s : State) (r : Reg) (v : Byte) : (s.writeReg r v).halted = s.halted := by cases r <;> rfl
@[simp] theorem State.writeReg_locked (s : State) (r : Reg) (v : Byte) : (s.writeReg r v).locked = s.locked := by cases r <;> rfl
@[simp] theorem State.writeReg_eiPending (s : State) (r : Reg) (v : Byte) : (s.writeReg r v).eiPending = s.eiPending := by cases r <;> rfl
@[simp] theorem State.writeReg_haltBug (s : State) (r : Reg) (v : Byte) : (s.writeReg r v).haltBug = s.haltBug := by cases r <;> rfl
@[simp] theorem State.writeReg_irqDetected (s : State) (r : Reg) (v : Byte) : (s.writeReg r v).irqDetected = s.irqDetected := by cases r <;> rfl
@[simp] theorem State.writeReg_mem (s : State) (r : Reg) (v : Byte) : (s.writeReg r v).mem = s.mem := by cases r <;> rfl
@[simp] theorem State.writeReg_inputs (s : State) (r : Reg) (v : Byte) : (s.writeReg r v).inputs = s.inputs := by cases r <;> rfl
@[simp] theorem State.writeReg_log (s : State) (r : Reg) (v : Byte) : (s.writeReg r v).log = s.log := by cases r <;> rfl

/-! ### `writePair` -/

@[simp] theorem State.writePair_flags (s : State) (p : Pair) (v : Word) : (s.writePair p v).flags = s.flags := by cases p <;> rfl
@[simp] theorem State.writePair_pc (s : State) (p : Pair) (v : Word) : (s.writePair p v).pc = s.pc := by cases p <;> rfl
@[simp] theorem State.writePair_ime (s : State) (p : Pair) (v : Word) : (s.writePair p v).ime = s.ime := by cases p <;> rfl
@[simp] theorem State.writePair_seq (s : State) (p : Pair) (v : Word) : (s.writePair p v).seq = s.seq := by cases p <;> rfl
@[simp] theorem State.writePair_halted (s : State) (p : Pair) (v : Word) : (s.writePair p v).halted = s.halted := by cases p <;> rfl
@[simp] theorem State.writePair_locked (s : State) (p : Pair) (v : Word) : (s.writePair p v).locked = s.locked := by cases p <;> rfl
@[simp] theorem State.writePair_eiPending (s : State) (p : Pair) (v : Word) : (s.writePair p v).eiPending = s.eiPending := by cases p <;> rfl
@[simp] theorem State.writePair_haltBug (s : State) (p : Pair) (v : Word) : (s.writePair p v).haltBug = s.haltBug := by cases p <;> rfl
@[simp] theorem State.writePair_irqDetected (s : State) (p : Pair) (v : Word) : (s.writePair p v).irqDetected = s.irqDetected := by cases p <;> rfl
@[simp] theorem State.writePair_mem (s : State) (p : Pair) (v : Word) : (s.writePair p v).mem = s.mem := by cases p <;> rfl
@[simp] theorem State.writePair_inputs (s : State) (p : Pair) (v : Word) : (s.writePair p v).inputs = s.inputs := by cases p <;> rfl
@[simp] theorem State.writePair_log (s : State) (p : Pair) (v : Word) : (s.writePair p v).log = s.log := by cases p <;> rfl

/-! ### What the register accessors read after an update -/

@[simp] theorem State.readReg_setFlags (s : State) (f : Flags) (r : Reg) : (s.setFlags f).readReg r = s.readReg r := rfl
@[simp] theorem State.readPair_setFlags (s : State) (f : Flags) (p : Pair) : (s.setFlags f).readPair p = s.readPair p := rfl
@[simp] theorem State.hl_setFlags (s : State) (f : Flags) : (s.setFlags f).hl = s.hl := rfl
@[simp] theorem State.readReg_setPC (s : State) (v : Word) (r : Reg) : (s.setPC v).readReg r = s.readReg r := rfl
@[simp] theorem State.readPair_setPC (s : State) (v : Word) (p : Pair) : (s.setPC v).readPair p = s.readPair p := rfl
@[simp] theorem State.hl_setPC (s : State) (v : Word) : (s.setPC v).hl = s.hl := rfl
@[simp] theorem State.readReg_setSP (s : State) (v : Word) (r : Reg) : (s.setSP v).readReg r = s.readReg r := rfl
@[simp] theorem State.readReg_setIME (s : State) (v : Bool) (r : Reg) : (s.setIME v).readReg r = s.readReg r := rfl
@[simp] theorem State.readPair_setIME (s : State) (v : Bool) (p : Pair) : (s.setIME v).readPair p = s.readPair p := rfl
@[simp] theorem State.hl_setIME (s : State) (v : Bool) : (s.setIME v).hl = s.hl := rfl
@[simp] theorem State.readReg_setZ (s : State) (v : Byte) (r : Reg) : (s.setZ v).readReg r = s.readReg r := rfl
@[simp] theorem State.readPair_setZ (s : State) (v : Byte) (p : Pair) : (s.setZ v).readPair p = s.readPair p := rfl
@[simp] theorem State.hl_setZ (s : State) (v : Byte) : (s.setZ v).hl = s.hl := rfl
@[simp] theorem State.readReg_setW (s : State) (v : Byte) (r : Reg) : (s.setW v).readReg r = s.readReg r := rfl
@[simp] theorem State.readPair_setW (s : State) (v : Byte) (p : Pair) : (s.setW v).readPair p = s.readPair p := rfl
@[simp] theorem State.hl_setW (s : State) (v : Byte) : (s.setW v).hl = s.hl := rfl
@[simp] theorem State.readReg_setMem (s : State) (m : Memory) (r : Reg) : (s.setMem m).readReg r = s.readReg r := rfl
@[simp] theorem State.readPair_setMem (s : State) (m : Memory) (p : Pair) : (s.setMem m).readPair p = s.readPair p := rfl
@[simp] theorem State.hl_setMem (s : State) (m : Memory) : (s.setMem m).hl = s.hl := rfl
@[simp] theorem State.readReg_record (s : State) (c : BusCycle) (r : Reg) : (s.record c).readReg r = s.readReg r := rfl
@[simp] theorem State.readPair_record (s : State) (c : BusCycle) (p : Pair) : (s.record c).readPair p = s.readPair p := rfl
@[simp] theorem State.hl_record (s : State) (c : BusCycle) : (s.record c).hl = s.hl := rfl
@[simp] theorem State.readReg_sawRead (s : State) (a : Word) (v : Byte) (r : Reg) : (s.sawRead a v).readReg r = s.readReg r := rfl
@[simp] theorem State.readPair_sawRead (s : State) (a : Word) (v : Byte) (p : Pair) : (s.sawRead a v).readPair p = s.readPair p := rfl
@[simp] theorem State.hl_sawRead (s : State) (a : Word) (v : Byte) : (s.sawRead a v).hl = s.hl := rfl
@[simp] theorem State.readReg_busWrite (s : State) (a : Word) (v : Byte) (r : Reg) : (s.busWrite a v).readReg r = s.readReg r := rfl
@[simp] theorem State.readPair_busWrite (s : State) (a : Word) (v : Byte) (p : Pair) : (s.busWrite a v).readPair p = s.readPair p := rfl
@[simp] theorem State.hl_busWrite (s : State) (a : Word) (v : Byte) : (s.busWrite a v).hl = s.hl := rfl
@[simp] theorem State.readReg_popInput (s : State) (r : Reg) : (s.popInput).readReg r = s.readReg r := rfl
@[simp] theorem State.readPair_popInput (s : State) (p : Pair) : (s.popInput).readPair p = s.readPair p := rfl
@[simp] theorem State.hl_popInput (s : State) : (s.popInput).hl = s.hl := rfl
@[simp] theorem State.readReg_beginTick (s : State) (r : Reg) : (s.beginTick).readReg r = s.readReg r := rfl
@[simp] theorem State.readPair_beginTick (s : State) (p : Pair) : (s.beginTick).readPair p = s.readPair p := rfl
@[simp] theorem State.hl_beginTick (s : State) : (s.beginTick).hl = s.hl := rfl
@[simp] theorem State.readReg_startInstr (s : State) (r : Reg) : (s.startInstr).readReg r = s.readReg r := rfl
@[simp] theorem State.readPair_startInstr (s : State) (p : Pair) : (s.startInstr).readPair p = s.readPair p := rfl
@[simp] theorem State.hl_startInstr (s : State) : (s.startInstr).hl = s.hl := rfl
@[simp] theorem State.readReg_startService (s : State) (r : Reg) : (s.startService).readReg r = s.readReg r := rfl
@[simp] theorem State.readPair_startService (s : State) (p : Pair) : (s.startService).readPair p = s.readPair p := rfl
@[simp] theorem State.hl_startService (s : State) : (s.startService).hl = s.hl := rfl
@[simp] theorem State.readReg_advance (s : State) (r : Reg) : (s.advance).readReg r = s.readReg r := rfl
@[simp] theorem State.readPair_advance (s : State) (p : Pair) : (s.advance).readPair p = s.readPair p := rfl
@[simp] theorem State.hl_advance (s : State) : (s.advance).hl = s.hl := rfl
@[simp] theorem State.readReg_poll (s : State) (i : TickIn) (r : Reg) : (s.poll i).readReg r = s.readReg r := rfl
@[simp] theorem State.readPair_poll (s : State) (i : TickIn) (p : Pair) : (s.poll i).readPair p = s.readPair p := rfl
@[simp] theorem State.hl_poll (s : State) (i : TickIn) : (s.poll i).hl = s.hl := rfl
@[simp] theorem State.readReg_latchOpcode (s : State) (b : Byte) (r : Reg) : (s.latchOpcode b).readReg r = s.readReg r := rfl
@[simp] theorem State.readPair_latchOpcode (s : State) (b : Byte) (p : Pair) : (s.latchOpcode b).readPair p = s.readPair p := rfl
@[simp] theorem State.hl_latchOpcode (s : State) (b : Byte) : (s.latchOpcode b).hl = s.hl := rfl
@[simp] theorem State.readReg_latchPrefixed (s : State) (b : Byte) (r : Reg) : (s.latchPrefixed b).readReg r = s.readReg r := rfl
@[simp] theorem State.readPair_latchPrefixed (s : State) (b : Byte) (p : Pair) : (s.latchPrefixed b).readPair p = s.readPair p := rfl
@[simp] theorem State.hl_latchPrefixed (s : State) (b : Byte) : (s.latchPrefixed b).hl = s.hl := rfl
@[simp] theorem State.input_setFlags (s : State) (f : Flags) : (s.setFlags f).input = s.input := rfl
@[simp] theorem State.input_setPC (s : State) (v : Word) : (s.setPC v).input = s.input := rfl
@[simp] theorem State.input_setSP (s : State) (v : Word) : (s.setSP v).input = s.input := rfl
@[simp] theorem State.input_setIME (s : State) (v : Bool) : (s.setIME v).input = s.input := rfl
@[simp] theorem State.input_setZ (s : State) (v : Byte) : (s.setZ v).input = s.input := rfl
@[simp] theorem State.input_setW (s : State) (v : Byte) : (s.setW v).input = s.input := rfl
@[simp] theorem State.input_setMem (s : State) (m : Memory) : (s.setMem m).input = s.input := rfl
@[simp] theorem State.input_record (s : State) (c : BusCycle) : (s.record c).input = s.input := rfl
@[simp] theorem State.input_sawRead (s : State) (a : Word) (v : Byte) : (s.sawRead a v).input = s.input := rfl
@[simp] theorem State.input_busWrite (s : State) (a : Word) (v : Byte) : (s.busWrite a v).input = s.input := rfl
@[simp] theorem State.input_beginTick (s : State) : (s.beginTick).input = s.input := rfl
@[simp] theorem State.input_startInstr (s : State) : (s.startInstr).input = s.input := rfl
@[simp] theorem State.input_startService (s : State) : (s.startService).input = s.input := rfl
@[simp] theorem State.input_advance (s : State) : (s.advance).input = s.input := rfl
@[simp] theorem State.input_poll (s : State) (i : TickIn) : (s.poll i).input = s.input := rfl
@[simp] theorem State.input_latchOpcode (s : State) (b : Byte) : (s.latchOpcode b).input = s.input := rfl
@[simp] theorem State.input_latchPrefixed (s : State) (b : Byte) : (s.latchPrefixed b).input = s.input := rfl
@[simp] theorem State.opcodePC_sawRead (s : State) (a : Word) (v : Byte) : (s.sawRead a v).opcodePC = s.opcodePC := rfl
@[simp] theorem State.opcodePC_startInstr (s : State) : s.startInstr.opcodePC = s.opcodePC := rfl

theorem State.readReg_congr {s t : State} (h : t.regs = s.regs) (r : Reg) : t.readReg r = s.readReg r := by
  cases r <;> simp only [State.readReg, h]

theorem State.readPair_congr {s t : State} (h : t.regs = s.regs) (hs : t.sp = s.sp) (p : Pair) :
    t.readPair p = s.readPair p := by
  cases p <;> simp only [State.readPair, h, hs]

/-! ### The poll point after an instruction (40_sequencer.md R175, R176) -/

@[simp] theorem State.complete_ime (s : State) (i : TickIn) : (s.complete i).ime =
    (s.ime || (decide (s.seq.mode = .exec ∧ s.locked = false) && s.eiPending)) := by
  simp only [State.complete]
  by_cases h : s.seq.mode = .exec ∧ s.locked = false <;> simp [h, State.poll]

@[simp] theorem State.complete_eiPending (s : State) (i : TickIn) : (s.complete i).eiPending =
    (!decide (s.seq.mode = .exec ∧ s.locked = false) && s.eiPending) := by
  simp only [State.complete]
  by_cases h : s.seq.mode = .exec ∧ s.locked = false <;> simp [h, State.poll]

@[simp] theorem State.complete_irqDetected (s : State) (i : TickIn) : (s.complete i).irqDetected =
    (s.irqDetected || (decide (s.seq.mode = .exec ∧ s.locked = false) && (s.ime && i.irqPending))) := by
  simp only [State.complete]
  by_cases h : s.seq.mode = .exec ∧ s.locked = false <;> simp [h, State.poll]

@[simp] theorem State.input_writeReg (s : State) (r : Reg) (v : Byte) : (s.writeReg r v).input = s.input := by
  simp only [State.input, State.writeReg_inputs]

@[simp] theorem State.input_writePair (s : State) (p : Pair) (v : Word) : (s.writePair p v).input = s.input := by
  simp only [State.input, State.writePair_inputs]

@[simp] theorem State.readReg_complete (s : State) (i : TickIn) (r : Reg) : (s.complete i).readReg r = s.readReg r :=
  State.readReg_congr (by simp) r

@[simp] theorem State.readPair_complete (s : State) (i : TickIn) (p : Pair) :
    (s.complete i).readPair p = s.readPair p :=
  State.readPair_congr (by simp) (by simp) p

/-- Reading a register after a register is written: the new value there, the old one elsewhere (10_state.md R30). -/
theorem State.readReg_writeReg (s : State) (r q : Reg) (v : Byte) :
    (s.writeReg r v).readReg q = if q = r then v else s.readReg q := by
  cases r <;> cases q <;> rfl

@[simp] theorem State.readReg_writeReg_same (s : State) (r : Reg) (v : Byte) : (s.writeReg r v).readReg r = v := by
  cases r <;> rfl

/-- Writing a register with the value it has changes nothing. -/
theorem State.writeReg_readReg (s : State) (r : Reg) : s.writeReg r (s.readReg r) = s := by cases r <;> rfl

/-- The high half of two joined bytes (00_scope.md R7). -/
@[simp] theorem hiByte_joinBytes (h l : Byte) : hiByte (joinBytes h l) = h := by
  apply BitVec.eq_of_getLsbD_eq; intro i hi
  simp only [hiByte, joinBytes, BitVec.getLsbD_extractLsb', BitVec.getLsbD_append]
  simp [hi]

/-- The low half of two joined bytes (00_scope.md R7). -/
@[simp] theorem loByte_joinBytes (h l : Byte) : loByte (joinBytes h l) = l := by
  apply BitVec.eq_of_getLsbD_eq; intro i hi
  simp only [loByte, joinBytes, BitVec.getLsbD_extractLsb', BitVec.getLsbD_append]
  simp [hi]

/-- A word is its two halves (00_scope.md R7). -/
@[simp] theorem joinBytes_halves (v : Word) : joinBytes (hiByte v) (loByte v) = v := by
  apply BitVec.eq_of_getLsbD_eq; intro i hi
  simp only [hiByte, loByte, joinBytes, BitVec.getLsbD_append, BitVec.getLsbD_extractLsb']
  by_cases h : i < 8
  · simp [h]
  · have h2 : 8 + (i - 8) = i := by omega
    have h3 : i - 8 < 8 := by omega
    simp [h, h2, h3]

end Sys2Proof.Machine
end

