-- ==== Sys2Proof/Laws/Cycles.lean ====
section
/-! SUPPORT. What each shared operation of the machine does, said once: the bus operations, the cycles the tables are
written with, completion, one tick of a sequence, a whole sequence, and exec as the cycle table of its instruction. -/

namespace Sys2Proof.Machine

/-! ### The samples -/

theorem State.input_eq_sampleAt (s : State) : s.input = s.sampleAt 0 := rfl

theorem State.sampleAt_of_inputs {s t : State} {n : Nat} (h : t.inputs = s.inputs.drop n) (k : Nat) :
    t.sampleAt k = s.sampleAt (n + k) := by
  simp only [State.sampleAt, h, List.drop_drop]

/-- In an undisturbed state no tick to come brings another agent's write (20_memory.md R94). -/
theorem State.Undisturbed.others {s : State} (h : s.Undisturbed) (k : Nat) : (s.sampleAt k).others = [] := by
  simp only [State.sampleAt, List.headD_eq_head?_getD, List.head?_drop]
  cases hk : s.inputs[k]? with
  | none => rfl
  | some i => exact h i (List.mem_of_getElem? hk)

theorem State.Undisturbed.drop {s t : State} (h : s.Undisturbed) {n : Nat} (ht : t.inputs = s.inputs.drop n) :
    t.Undisturbed := fun i hi => h i (List.mem_of_mem_drop (ht ▸ hi))

/-- The bus side of the ticks to come depends on the memory and the samples alone. -/
theorem State.memAt_congr {s t : State} (hm : t.mem = s.mem) (hi : t.inputs = s.inputs) (k : Nat) :
    t.memAt k = s.memAt k := by
  induction k generalizing s t with
  | zero => simp only [State.memAt, State.beginTick, State.setMem, State.input, hm, hi]
  | succ k ih =>
    simp only [State.memAt]
    apply ih <;> simp only [State.beginTick, State.popInput, State.setMem, State.input, hm, hi]

/-- After an idle tick the bus side of the `k`-th tick is what it was of the tick after it. -/
@[simp] theorem State.idleTick_memAt (s : State) (k : Nat) : s.idleTick.memAt k = s.memAt (k + 1) :=
  State.memAt_congr (s := s.beginTick.popInput) (t := s.idleTick) rfl rfl k

/-- In an undisturbed state the tick's own cycle finds memory as the tick before left it. -/
theorem State.beginTick_undisturbed {s : State} (h : s.Undisturbed) : s.beginTick = s := by
  have h0 : s.input.others = [] := h.others 0
  simp only [State.beginTick, h0, Memory.writeAll_nil, State.setMem]

theorem State.memAt_undisturbed {s : State} (h : s.Undisturbed) (k : Nat) : s.memAt k = s.mem := by
  induction k generalizing s with
  | zero => simp only [State.memAt, State.beginTick_undisturbed h]
  | succ k ih =>
    simp only [State.memAt, State.beginTick_undisturbed h]
    rw [ih (h.drop (n := 1) (by simp))]
    rfl

/-! ### The bus operations (00_scope.md R9) -/

variable (inp : TickIn) (g : Option Byte) (s : State)

/-- c0: the byte at PC goes to `ir`, PC moves on unless the glitch is consumed, halt_bug is 0 (40_sequencer.md R170). -/
theorem BusOp.perform_opcode : BusOp.opcode.perform inp g s =
    ((s.sawRead s.pc (g.getD (s.mem.read s.pc))).latchOpcode (g.getD (s.mem.read s.pc)),
      g.getD (s.mem.read s.pc)) := rfl

/-- A later instruction byte: PC always moves on (40_sequencer.md R170). -/
theorem BusOp.perform_fetch : BusOp.fetch.perform inp g s =
    ((s.sawRead s.pc (g.getD (s.mem.read s.pc))).setPC (s.pc + 1#16), g.getD (s.mem.read s.pc)) := rfl

theorem BusOp.perform_read (addr : State → Word) : (BusOp.read addr).perform inp g s =
    (s.sawRead (addr s) (s.mem.read (addr s)), s.mem.read (addr s)) := rfl

theorem BusOp.perform_write (addr : State → Word) (v : State → Byte) : (BusOp.write addr v).perform inp g s =
    (s.busWrite (addr s) (v s), 0#8) := rfl

theorem BusOp.perform_push (v : State → Byte) : (BusOp.push v).perform inp g s =
    ((s.setSP (s.sp - 1#16)).busWrite (s.sp - 1#16) (v s), 0#8) := rfl

theorem BusOp.perform_pop : BusOp.pop.perform inp g s =
    ((s.sawRead s.sp (s.mem.read s.sp)).setSP (s.sp + 1#16), s.mem.read s.sp) := rfl

theorem BusOp.perform_idle : BusOp.idle.perform inp g s = (s.record (.idle none), 0#8) := rfl

theorem BusOp.perform_idleAck : BusOp.idleAck.perform inp g s = (s.record (.idle inp.selected), 0#8) := rfl

/-- Everything a bus operation can do to the state: exactly one cycle is logged; registers, flags, IME, the halt,
lock, enable and detection bits and the samples are kept; of the sequencer only `ir` can change; PC, SP, memory and
halt_bug as the operation says (00_scope.md R9, 40_sequencer.md R162). -/
theorem BusOp.perform_spec (op : BusOp) :
    let t := (op.perform inp g s).1
    t.regs = s.regs ∧ t.flags = s.flags ∧ t.ime = s.ime ∧ t.halted = s.halted ∧ t.locked = s.locked ∧
      t.eiPending = s.eiPending ∧ t.irqDetected = s.irqDetected ∧ t.inputs = s.inputs ∧
      (∃ c, t.log = c :: s.log) ∧ t.seq.mode = s.seq.mode ∧ t.seq.step = s.seq.step ∧ t.seq.pfx = s.seq.pfx ∧
      t.seq.z = s.seq.z ∧ t.seq.w = s.seq.w ∧ t.mem.filler = s.mem.filler ∧
      (s.mem.wf = true → t.mem.wf = true) := by
  cases op <;>
    exact ⟨rfl, rfl, rfl, rfl, rfl, rfl, rfl, rfl, ⟨_, rfl⟩, rfl, rfl, rfl, rfl, rfl, rfl,
      fun h => by first | exact h | exact Memory.wf_write h _ _⟩

/-! ### Completion and the poll point (40_sequencer.md R175, R176): the fields are in Laws/State.lean -/

/-- Everything HALT's actions can do: set `halted`, or `halt_bug`, or neither (46_system.md R331). -/
theorem State.haltEntry_spec :
    s.haltEntry inp = { s with
      halted := s.halted || !inp.irqPending, haltBug := s.haltBug || (inp.irqPending && !s.ime) } := by
  obtain ⟨_, _, _, _, ime, _, _, _, _, _, _, _, _, _⟩ := s
  simp only [State.haltEntry]
  cases inp.irqPending <;> cases ime <;> simp

/-! ### One tick of a sequence (40_sequencer.md R172) -/

/-- A tick of a sequence that completes. -/
theorem Cycle.tick_ends {c : Cycle} {last : Bool} (h : c.ends g last s = true) :
    c.tick g last s = ((c.run g s).complete s.input).popInput := by
  simp only [Cycle.tick, h, if_true]

/-- A tick of a sequence that goes on. -/
theorem Cycle.tick_goes_on {c : Cycle} {last : Bool} (h : c.ends g last s = false) :
    c.tick g last s = (c.run g s).advance.popInput := by
  simp only [Cycle.tick, h, Bool.false_eq_true, if_false]

/-- The bus operation and the actions of a cycle, with no other agent's write. -/
theorem Cycle.run_undisturbed {c : Cycle} (h : s.Undisturbed) :
    c.run g s = c.act s.input (c.op.perform s.input g s).2 (c.op.perform s.input g s).1 := by
  simp only [Cycle.run, State.beginTick_undisturbed h]

/-- A cycle that never stops its sequence ends it only as the last one. -/
theorem Cycle.ends_neverStops {c : Cycle} {last : Bool} (h : c.stops = neverStops) : c.ends g last s = last := by
  simp only [Cycle.ends, h, neverStops, Bool.or_false]

@[simp] theorem cOpcodeSampled_stops (act : TickIn → State → State) : (cOpcodeSampled act).stops s = false := rfl
@[simp] theorem cOpcode_stops (act : State → State) : (cOpcode act).stops s = false := rfl
@[simp] theorem c0_stops : c0.stops s = false := rfl
@[simp] theorem cFetch_stops (act : Byte → State → State) : (cFetch act).stops s = false := rfl
@[simp] theorem cFetchZ_stops : cFetchZ.stops s = false := rfl
@[simp] theorem cFetchW_stops : cFetchW.stops s = false := rfl
@[simp] theorem cPop_stops (act : Byte → State → State) : (cPop act).stops s = false := rfl
@[simp] theorem cPopZ_stops : cPopZ.stops s = false := rfl
@[simp] theorem cPopW_stops : cPopW.stops s = false := rfl
@[simp] theorem cPush_stops (v : State → Byte) (act : State → State) : (cPush v act).stops s = false := rfl
@[simp] theorem cIdle_stops (act : State → State) : (cIdle act).stops s = false := rfl
@[simp] theorem cRead_stops (addr : State → Word) (act : Byte → State → State) : (cRead addr act).stops s = false := rfl
@[simp] theorem cWrite_stops (addr : State → Word) (v : State → Byte) (act : State → State) : (cWrite addr v act).stops s = false := rfl
@[simp] theorem cPrefixed_stops (act : State → State) : (cPrefixed act).stops s = false := rfl
@[simp] theorem cIndex_stops : cIndex.stops s = false := rfl
@[simp] theorem cSelect_stops : cSelect.stops s = false := rfl

/-- A conditional cycle stops its sequence exactly when the condition does not hold (45_control.md R300). -/
@[simp] theorem Cycle.ifTaken_stops (c : Cycle) (cc : Cond) : (c.ifTaken cc).stops s = !condHolds cc s.flags := rfl

/-! ### A whole sequence -/

variable (bytes : List Byte) (rest : List Cycle)

@[simp] theorem runTable_nil : runTable bytes [] s = s := by cases bytes <;> rfl

/-- A sequence that completes at its first cycle. -/
theorem runTable_ends {c : Cycle} {g : Option Byte} (hg : g = if c.op.takesByte then bytes.head? else none)
    (h : c.ends g rest.isEmpty s = true) : runTable bytes (c :: rest) s = c.tick g rest.isEmpty s := by
  subst hg
  simp only [runTable, h, if_true]

/-- A sequence that goes on after its first cycle. -/
theorem runTable_goes_on {c : Cycle} {g : Option Byte} (hg : g = if c.op.takesByte then bytes.head? else none)
    (h : c.ends g rest.isEmpty s = false) : runTable bytes (c :: rest) s =
      runTable (if c.op.takesByte then bytes.tail else bytes) rest (c.tick g rest.isEmpty s) := by
  subst hg
  simp only [runTable, h, Bool.false_eq_true, if_false]

/-- What every tick of a table's cycles keeps, the whole sequence keeps. -/
theorem runTable_keeps (P : State → Prop) (table : List Cycle)
    (h : ∀ c ∈ table, ∀ (g : Option Byte) (last : Bool) (s : State), P s → P (c.tick g last s)) :
    ∀ (bytes : List Byte) (s : State), P s → P (runTable bytes table s) := by
  induction table with
  | nil => intro bytes s hs; simpa using hs
  | cons c rest ih =>
    intro bytes s hs
    have hc := h c (List.mem_cons_self ..) (if c.op.takesByte then bytes.head? else none) rest.isEmpty s hs
    cases he : c.ends (if c.op.takesByte then bytes.head? else none) rest.isEmpty s with
    | true => rw [runTable_ends s bytes rest rfl he]; exact hc
    | false =>
      rw [runTable_goes_on s bytes rest rfl he]
      exact ih (fun c hm => h c (List.mem_cons_of_mem _ hm)) _ _ hc

/-- A whole instruction always has a next state. -/
theorem runInstr_next (table : List Cycle) :
    runInstr bytes table s = .next (runTable bytes table s.startInstr) := rfl

/-- Every instruction but the row PREFIX is its bytes run through its cycle table. -/
theorem exec_eq_runInstr {i : Instr} (h : i ≠ .prefixByte) :
    exec i s = .next (runTable (encode i) (cyclesOf i) s.startInstr) := by
  cases i <;> first | rfl | exact absurd rfl h

/-- The row PREFIX is the prefixed instruction that the byte after it selects (30_encoding.md R120; log 7). -/
theorem exec_prefixByte : exec .prefixByte s =
    .next (runTable [Config.prefixValue, s.instrByte 1] (cyclesOf (decodePrefixed (s.instrByte 1))) s.startInstr) := rfl

end Sys2Proof.Machine
end

