-- ==== Sys2Proof/Laws/PerInstr.lean ====
section
/-! SUPPORT. A statement made per instruction: its encoding has the length its format gives it (30_encoding.md R110). -/

namespace Sys2Proof.Laws.EncodeLength

/-- The encoding of `i` is as long as the length of its row's format (30_encoding.md R110). -/
def Statement (i : Sys2Proof.Instr) : Prop := (Sys2Proof.encode i).length = i.length

theorem nop : Statement .nop := rfl
theorem jr (off : Sys2Proof.Byte) : Statement (.jr off) := rfl
theorem di : Statement .di := rfl
theorem ei : Statement .ei := rfl
theorem scf : Statement .scf := rfl
theorem ccf : Statement .ccf := rfl
theorem cpl : Statement .cpl := rfl
theorem swi : Statement .swi := rfl
theorem ldPpNn (pp : Sys2Proof.Pair) (nn : Sys2Proof.Word) : Statement (.ldPpNn pp nn) := rfl
theorem addHlPp (pp : Sys2Proof.Pair) : Statement (.addHlPp pp) := rfl
theorem ldBcA : Statement .ldBcA := rfl
theorem ldABc : Statement .ldABc := rfl
theorem ldDeA : Statement .ldDeA := rfl
theorem ldADe : Statement .ldADe := rfl
theorem ldNnA (nn : Sys2Proof.Word) : Statement (.ldNnA nn) := rfl
theorem ldANn (nn : Sys2Proof.Word) : Statement (.ldANn nn) := rfl
theorem ldHldA (disp : Sys2Proof.Byte) : Statement (.ldHldA disp) := rfl
theorem ldAHld (disp : Sys2Proof.Byte) : Statement (.ldAHld disp) := rfl
theorem incPp (pp : Sys2Proof.Pair) : Statement (.incPp pp) := rfl
theorem decPp (pp : Sys2Proof.Pair) : Statement (.decPp pp) := rfl
theorem incR (r : Sys2Proof.Reg) : Statement (.incR r) := rfl
theorem incM : Statement .incM := rfl
theorem decR (r : Sys2Proof.Reg) : Statement (.decR r) := rfl
theorem decM : Statement .decM := rfl
theorem ldRN (r : Sys2Proof.Reg) (n : Sys2Proof.Byte) : Statement (.ldRN r n) := rfl
theorem ldMN (n : Sys2Proof.Byte) : Statement (.ldMN n) := rfl
theorem jrCc (cc : Sys2Proof.Cond) (off : Sys2Proof.Byte) : Statement (.jrCc cc off) := rfl
theorem ldRR (dst : Sys2Proof.Reg) (src : Sys2Proof.Reg) : Statement (.ldRR dst src) := rfl
theorem ldRM (dst : Sys2Proof.Reg) : Statement (.ldRM dst) := rfl
theorem ldMR (src : Sys2Proof.Reg) : Statement (.ldMR src) := rfl
theorem halt : Statement .halt := rfl
theorem addAR (r : Sys2Proof.Reg) : Statement (.addAR r) := rfl
theorem addAM : Statement .addAM := rfl
theorem addAN (n : Sys2Proof.Byte) : Statement (.addAN n) := rfl
theorem adcAR (r : Sys2Proof.Reg) : Statement (.adcAR r) := rfl
theorem adcAM : Statement .adcAM := rfl
theorem adcAN (n : Sys2Proof.Byte) : Statement (.adcAN n) := rfl
theorem subAR (r : Sys2Proof.Reg) : Statement (.subAR r) := rfl
theorem subAM : Statement .subAM := rfl
theorem subAN (n : Sys2Proof.Byte) : Statement (.subAN n) := rfl
theorem sbcAR (r : Sys2Proof.Reg) : Statement (.sbcAR r) := rfl
theorem sbcAM : Statement .sbcAM := rfl
theorem sbcAN (n : Sys2Proof.Byte) : Statement (.sbcAN n) := rfl
theorem andAR (r : Sys2Proof.Reg) : Statement (.andAR r) := rfl
theorem andAM : Statement .andAM := rfl
theorem andAN (n : Sys2Proof.Byte) : Statement (.andAN n) := rfl
theorem xorAR (r : Sys2Proof.Reg) : Statement (.xorAR r) := rfl
theorem xorAM : Statement .xorAM := rfl
theorem xorAN (n : Sys2Proof.Byte) : Statement (.xorAN n) := rfl
theorem orAR (r : Sys2Proof.Reg) : Statement (.orAR r) := rfl
theorem orAM : Statement .orAM := rfl
theorem orAN (n : Sys2Proof.Byte) : Statement (.orAN n) := rfl
theorem cpAR (r : Sys2Proof.Reg) : Statement (.cpAR r) := rfl
theorem cpAM : Statement .cpAM := rfl
theorem cpAN (n : Sys2Proof.Byte) : Statement (.cpAN n) := rfl
theorem retCc (cc : Sys2Proof.Cond) : Statement (.retCc cc) := rfl
theorem popQq (qq : Sys2Proof.PairQ) : Statement (.popQq qq) := rfl
theorem popAf : Statement .popAf := rfl
theorem ret : Statement .ret := rfl
theorem reti : Statement .reti := rfl
theorem jpHl : Statement .jpHl := rfl
theorem ldSpHl : Statement .ldSpHl := rfl
theorem jpCc (cc : Sys2Proof.Cond) (nn : Sys2Proof.Word) : Statement (.jpCc cc nn) := rfl
theorem jp (nn : Sys2Proof.Word) : Statement (.jp nn) := rfl
theorem prefixByte : Statement .prefixByte := rfl
theorem undAliasD3 : Statement .undAliasD3 := rfl
theorem undAliasDB : Statement .undAliasDB := rfl
theorem undAliasE3 : Statement .undAliasE3 := rfl
theorem undAliasEB : Statement .undAliasEB := rfl
theorem ldFA : Statement .ldFA := rfl
theorem ldAF : Statement .ldAF := rfl
theorem callCc (cc : Sys2Proof.Cond) (nn : Sys2Proof.Word) : Statement (.callCc cc nn) := rfl
theorem pushQq (qq : Sys2Proof.PairQ) : Statement (.pushQq qq) := rfl
theorem pushAf : Statement .pushAf := rfl
theorem call (nn : Sys2Proof.Word) : Statement (.call nn) := rfl
theorem undLockDD : Statement .undLockDD := rfl
theorem undLockED : Statement .undLockED := rfl
theorem undLockFD : Statement .undLockFD := rfl
theorem undTrap (t : Sys2Proof.Oct) : Statement (.undTrap t) := rfl
theorem rlcR (r : Sys2Proof.Reg) : Statement (.rlcR r) := rfl
theorem rlcM : Statement .rlcM := rfl
theorem rrcR (r : Sys2Proof.Reg) : Statement (.rrcR r) := rfl
theorem rrcM : Statement .rrcM := rfl
theorem rlR (r : Sys2Proof.Reg) : Statement (.rlR r) := rfl
theorem rlM : Statement .rlM := rfl
theorem rrR (r : Sys2Proof.Reg) : Statement (.rrR r) := rfl
theorem rrM : Statement .rrM := rfl
theorem slaR (r : Sys2Proof.Reg) : Statement (.slaR r) := rfl
theorem slaM : Statement .slaM := rfl
theorem sraR (r : Sys2Proof.Reg) : Statement (.sraR r) := rfl
theorem sraM : Statement .sraM := rfl
theorem swapR (r : Sys2Proof.Reg) : Statement (.swapR r) := rfl
theorem swapM : Statement .swapM := rfl
theorem srlR (r : Sys2Proof.Reg) : Statement (.srlR r) := rfl
theorem srlM : Statement .srlM := rfl
theorem bitR (b : Sys2Proof.Oct) (r : Sys2Proof.Reg) : Statement (.bitR b r) := rfl
theorem bitM (b : Sys2Proof.Oct) : Statement (.bitM b) := rfl
theorem resR (b : Sys2Proof.Oct) (r : Sys2Proof.Reg) : Statement (.resR b r) := rfl
theorem resM (b : Sys2Proof.Oct) : Statement (.resM b) := rfl
theorem setR (b : Sys2Proof.Oct) (r : Sys2Proof.Reg) : Statement (.setR b r) := rfl
theorem setM (b : Sys2Proof.Oct) : Statement (.setM b) := rfl

end Sys2Proof.Laws.EncodeLength
end

