-- ==== Sys2Proof/Laws/Quiet.lean ====
section
/-! SUPPORT. Runs in which no other agent writes (20_memory.md R94): the same run without the beginning of the ticks,
and every instruction as such a run. -/

namespace Sys2Proof.Machine

/-- The actions of a cycle leave the samples to come alone. -/
def Cycle.KeepsInputs (c : Cycle) : Prop := ∀ (inp : TickIn) (b : Byte) (s : State), (c.act inp b s).inputs = s.inputs

/-- Every cycle of every instruction's table leaves the samples to come alone. -/
theorem keepsInputs_cyclesOf (i : Instr) : ∀ c ∈ cyclesOf i, c.KeepsInputs := by
  cases i
  all_goals
    simp only [cyclesOf, cyclesLdRR, cyclesLdRM, cyclesLdMR, cyclesLdRN, cyclesLdMN, cyclesLdABc, cyclesLdADe, cyclesLdBcA,
    cyclesLdDeA, cyclesLdANn, cyclesLdNnA, cyclesLdAHld, cyclesLdHldA, cyclesAddAR, cyclesAddAM, cyclesAddAN,
    cyclesAdcAR, cyclesAdcAM, cyclesAdcAN, cyclesSubAR, cyclesSubAM, cyclesSubAN, cyclesSbcAR, cyclesSbcAM,
    cyclesSbcAN, cyclesAndAR, cyclesAndAM, cyclesAndAN, cyclesXorAR, cyclesXorAM, cyclesXorAN, cyclesOrAR,
    cyclesOrAM, cyclesOrAN, cyclesCpAR, cyclesCpAM, cyclesCpAN, cyclesIncR, cyclesIncM, cyclesDecR, cyclesDecM,
    cyclesCpl, cyclesScf, cyclesCcf, cyclesLdPpNn, cyclesLdSpHl, cyclesPushQq, cyclesPopQq, cyclesPushAf,
    cyclesPopAf, cyclesIncPp, cyclesDecPp, cyclesAddHlPp, cyclesJr, cyclesJrCc, cyclesJp, cyclesJpCc,
    cyclesJpHl, cyclesCall, cyclesCallCc, cyclesRet, cyclesRetCc, cyclesReti, cyclesNop, cyclesHalt, cyclesEi,
    cyclesDi, cyclesLdAF, cyclesLdFA, cyclesSwi, cyclesUndAliasD3, cyclesUndAliasDB, cyclesUndAliasE3,
    cyclesUndAliasEB, cyclesUndLockDD, cyclesUndLockED, cyclesUndLockFD, cyclesUndTrap, cyclesRlcR, cyclesRlcM,
    cyclesRrcR, cyclesRrcM, cyclesRlR, cyclesRlM, cyclesRrR, cyclesRrM, cyclesSlaR, cyclesSlaM, cyclesSraR,
    cyclesSraM, cyclesSwapR, cyclesSwapM, cyclesSrlR, cyclesSrlM, cyclesBitR, cyclesBitM, cyclesResR,
    cyclesResM, cyclesSetR, cyclesSetM, aluRegister, aluMemory, aluImmediate, stepRegister, loadIndirect,
    storeIndirect, modifyHL, prefixedRegister, prefixedMemory, bitRegister, bitMemory, returnCycles, trapCycles,
    pushReturn, 
      List.forall_mem_cons, List.not_mem_nil, false_implies, implies_true, and_true]
    simp [Cycle.KeepsInputs, c0, cOpcode, cOpcodeSampled, cFetch, cFetchZ, cFetchW, cPop, cPopZ, cPopW, cPush, cIdle, cRead,
      cWrite, cPrefixed, cIndex, State.operate, Cycle.ifTaken,
      State.haltEntry_spec]

/-- Every cycle of the service sequence leaves the samples to come alone. -/
theorem keepsInputs_serviceCycles : ∀ c ∈ serviceCycles, c.KeepsInputs := by
  simp only [serviceCycles, List.forall_mem_cons, List.not_mem_nil, false_implies, implies_true, and_true]
  simp [Cycle.KeepsInputs, cIdle, cPush, cSelect]

/-- What a cycle does before completion or the next cycle index, without the other agents' writes. -/
def Cycle.quiet (c : Cycle) (given : Option Byte) (s : State) : State :=
  c.act s.input (c.op.perform s.input given s).2 (c.op.perform s.input given s).1

/-- A tick of a sequence without the other agents' writes at its beginning. -/
def Cycle.quietTick (c : Cycle) (given : Option Byte) (last : Bool) (s : State) : State :=
  (if last || c.stops (c.quiet given s) then (c.quiet given s).complete s.input else (c.quiet given s).advance).popInput

/-- A whole sequence without the other agents' writes. -/
def quietRun : List Byte → List Cycle → State → State
  | _, [], s => s
  | bytes, c :: rest, s =>
    let given := if c.op.takesByte then bytes.head? else none
    if rest.isEmpty || c.stops (c.quiet given s) then ((c.quiet given s).complete s.input).popInput
    else quietRun (if c.op.takesByte then bytes.tail else bytes) rest (c.quiet given s).advance.popInput

/-- In an undisturbed state a tick is the quiet one, and the next state is undisturbed again. -/
theorem Cycle.tick_eq_quietTick {c : Cycle} (hk : c.KeepsInputs) {s : State} (h : s.Undisturbed) (g : Option Byte)
    (last : Bool) : c.tick g last s = c.quietTick g last s ∧ (c.tick g last s).Undisturbed := by
  have hp : (c.op.perform s.input g s).1.inputs = s.inputs := (BusOp.perform_spec s.input g s c.op).2.2.2.2.2.2.2.1
  refine ⟨?_, ?_⟩
  · simp only [Cycle.tick, Cycle.ends, Cycle.run_undisturbed g s h]
    rfl
  · refine h.drop (n := 1) ?_
    simp only [Cycle.tick, Cycle.run_undisturbed g s h]
    split
    · rw [State.popInput_inputs, State.complete_inputs, hk, hp, List.drop_one]
    · rw [State.popInput_inputs, State.advance_inputs, hk, hp, List.drop_one]

/-- In an undisturbed state a sequence is the quiet one. -/
theorem runTable_eq_quietRun {table : List Cycle} (hk : ∀ c ∈ table, c.KeepsInputs) :
    ∀ (bytes : List Byte) {s : State}, s.Undisturbed → runTable bytes table s = quietRun bytes table s := by
  induction table with
  | nil => intro bytes s _; cases bytes <;> rfl
  | cons c rest ih =>
    intro bytes s h
    have hc := hk c (List.mem_cons_self ..)
    have ht := Cycle.tick_eq_quietTick hc h (if c.op.takesByte then bytes.head? else none) rest.isEmpty
    cases he : c.ends (if c.op.takesByte then bytes.head? else none) rest.isEmpty s with
    | true =>
      rw [runTable_ends s bytes rest rfl he, ht.1]
      simp only [Cycle.ends, Cycle.run_undisturbed _ s h] at he
      simp only [quietRun, Cycle.quietTick, Cycle.quiet, he, if_true]
    | false =>
      rw [runTable_goes_on s bytes rest rfl he, ih (fun c hm => hk c (List.mem_cons_of_mem _ hm)) _ ht.2, ht.1]
      simp only [Cycle.ends, Cycle.run_undisturbed _ s h] at he
      simp only [quietRun, Cycle.quietTick, Cycle.quiet, he, Bool.false_eq_true, if_false]

/-- In an undisturbed state every instruction but the row PREFIX is the quiet run of its cycle table. -/
theorem exec_eq_quietRun {i : Instr} (hi : i ≠ .prefixByte) {s : State} (h : s.Undisturbed) :
    exec i s = .next (quietRun (encode i) (cyclesOf i) s.startInstr) := by
  rw [exec_eq_runInstr s hi, runTable_eq_quietRun (keepsInputs_cyclesOf i) (encode i) (s := s.startInstr) h]

/-- In an undisturbed state the service sequence is the quiet run of its cycles. -/
theorem service_eq_quietRun {s : State} (h : s.Undisturbed) :
    s.service = quietRun [] serviceCycles s.startService :=
  runTable_eq_quietRun keepsInputs_serviceCycles [] (s := s.startService) h

/-! ### The cycles of the tables, quietly -/

variable (s : State)

@[simp] theorem cOpcode_quiet (act : State → State) (b : Byte) : (cOpcode act).quiet (some b) s =
    act ((s.sawRead s.pc b).latchOpcode b) := rfl

@[simp] theorem c0_quiet (b : Byte) : c0.quiet (some b) s =
    (s.sawRead s.pc b).latchOpcode b := rfl

@[simp] theorem cOpcodeSampled_quiet (act : TickIn → State → State) (b : Byte) : (cOpcodeSampled act).quiet (some b) s =
    act s.input ((s.sawRead s.pc b).latchOpcode b) := rfl

@[simp] theorem cFetch_quiet (act : Byte → State → State) (b : Byte) : (cFetch act).quiet (some b) s =
    act b ((s.sawRead s.pc b).setPC (s.pc + 1#16)) := rfl

@[simp] theorem cPop_quiet (act : Byte → State → State) : (cPop act).quiet none s =
    act (s.mem.read s.sp) ((s.sawRead s.sp (s.mem.read s.sp)).setSP (s.sp + 1#16)) := rfl

@[simp] theorem cFetchZ_quiet (b : Byte) : cFetchZ.quiet (some b) s =
    ((s.sawRead s.pc b).setPC (s.pc + 1#16)).setZ b := rfl

@[simp] theorem cFetchW_quiet (b : Byte) : cFetchW.quiet (some b) s =
    ((s.sawRead s.pc b).setPC (s.pc + 1#16)).setW b := rfl

@[simp] theorem cPrefixed_quiet (act : State → State) (b : Byte) : (cPrefixed act).quiet (some b) s =
    act (((s.sawRead s.pc b).setPC (s.pc + 1#16)).latchPrefixed b) := rfl

@[simp] theorem cPopZ_quiet : cPopZ.quiet none s =
    ((s.sawRead s.sp (s.mem.read s.sp)).setSP (s.sp + 1#16)).setZ (s.mem.read s.sp) := rfl

@[simp] theorem cPopW_quiet : cPopW.quiet none s =
    ((s.sawRead s.sp (s.mem.read s.sp)).setSP (s.sp + 1#16)).setW (s.mem.read s.sp) := rfl

@[simp] theorem cPush_quiet (v : State → Byte) (act : State → State) : (cPush v act).quiet none s =
    act ((s.setSP (s.sp - 1#16)).busWrite (s.sp - 1#16) (v s)) := rfl

@[simp] theorem cIdle_quiet (act : State → State) : (cIdle act).quiet none s =
    act (s.record (.idle none)) := rfl

@[simp] theorem cRead_quiet (addr : State → Word) (act : Byte → State → State) : (cRead addr act).quiet none s =
    act (s.mem.read (addr s)) (s.sawRead (addr s) (s.mem.read (addr s))) := rfl

@[simp] theorem cWrite_quiet (addr : State → Word) (v : State → Byte) (act : State → State) : (cWrite addr v act).quiet none s =
    act (s.busWrite (addr s) (v s)) := rfl

@[simp] theorem cIndex_quiet : cIndex.quiet none s =
    ((s.record (.idle none)).setW (hiByte (indexedAddress s.hl s.seq.z))).setZ
      (loByte (indexedAddress s.hl s.seq.z)) := rfl

@[simp] theorem cSelect_quiet : cSelect.quiet none s =
    (s.record (.idle s.input.selected)).setPC s.input.vector := rfl

@[simp] theorem Cycle.ifTaken_quiet (c : Cycle) (cc : Cond) (g : Option Byte) : (c.ifTaken cc).quiet g s = c.quiet g s := rfl

/-! ### What reads an instruction byte -/

@[simp] theorem cOpcode_takesByte (act : State → State) : (cOpcode act).op.takesByte = true := rfl
@[simp] theorem c0_takesByte : c0.op.takesByte = true := rfl
@[simp] theorem cOpcodeSampled_takesByte (act : TickIn → State → State) : (cOpcodeSampled act).op.takesByte = true := rfl
@[simp] theorem cFetch_takesByte (act : Byte → State → State) : (cFetch act).op.takesByte = true := rfl
@[simp] theorem cPop_takesByte (act : Byte → State → State) : (cPop act).op.takesByte = false := rfl
@[simp] theorem cFetchZ_takesByte : cFetchZ.op.takesByte = true := rfl
@[simp] theorem cFetchW_takesByte : cFetchW.op.takesByte = true := rfl
@[simp] theorem cPrefixed_takesByte (act : State → State) : (cPrefixed act).op.takesByte = true := rfl
@[simp] theorem cPopZ_takesByte : cPopZ.op.takesByte = false := rfl
@[simp] theorem cPopW_takesByte : cPopW.op.takesByte = false := rfl
@[simp] theorem cPush_takesByte (v : State → Byte) (act : State → State) : (cPush v act).op.takesByte = false := rfl
@[simp] theorem cIdle_takesByte (act : State → State) : (cIdle act).op.takesByte = false := rfl
@[simp] theorem cRead_takesByte (addr : State → Word) (act : Byte → State → State) : (cRead addr act).op.takesByte = false := rfl
@[simp] theorem cWrite_takesByte (addr : State → Word) (v : State → Byte) (act : State → State) : (cWrite addr v act).op.takesByte = false := rfl
@[simp] theorem cIndex_takesByte : cIndex.op.takesByte = false := rfl
@[simp] theorem cSelect_takesByte : cSelect.op.takesByte = false := rfl
@[simp] theorem Cycle.ifTaken_takesByte (c : Cycle) (cc : Cond) : (c.ifTaken cc).op.takesByte = c.op.takesByte := rfl

end Sys2Proof.Machine
end

