-- ==== Sys2Proof/Laws/Steps.lean ====
section
/-! SUPPORT. What one tick and one step can do, each said once (40_sequencer.md R163). -/

namespace Sys2Proof.Machine

/-- Which case a tick is, with the condition of each (40_sequencer.md R163). -/
theorem State.tickCase_spec (s : State) :
    (s.tickCase = .reset ∧ s.seq.mode = .boundary ∧ s.input.reset = true) ∨
    (s.tickCase = .locked ∧ s.locked = true ∧ (s.seq.mode = .boundary → s.input.reset = false)) ∨
    (s.tickCase = .held ∧ s.seq.mode = .boundary ∧ s.input.reset = false ∧ s.locked = false ∧
      s.input.haltLine = true) ∨
    (s.tickCase = .halted ∧ s.seq.mode = .boundary ∧ s.input.reset = false ∧ s.locked = false ∧
      s.input.haltLine = false ∧ s.halted = true) ∨
    (s.tickCase = .startService ∧ s.seq.mode = .boundary ∧ s.input.reset = false ∧ s.locked = false ∧
      s.input.haltLine = false ∧ s.halted = false ∧ s.irqDetected = true) ∨
    (s.tickCase = .startInstr ∧ s.Starts) ∨
    (s.tickCase = .goOn ∧ s.seq.mode ≠ .boundary ∧ s.locked = false) := by
  have hi : s.input = s.sampleAt 0 := rfl
  simp only [State.tickCase, State.Starts, ← hi]
  by_cases hm : s.seq.mode = .boundary <;> cases s.input.reset <;> cases hl : s.locked <;>
    cases s.input.haltLine <;> cases s.halted <;> cases s.irqDetected <;> simp [hm]

/-- Everything a tick with a next state can do: the four idle ticks, or the next cycle of a sequence, which the tick
may start (40_sequencer.md R163 to R172). -/
theorem tick_cases {s t : State} (h : tick s = .next t) :
    (s.tickCase = .reset ∧ t = s.resetTick) ∨
    ((s.tickCase = .locked ∨ s.tickCase = .held) ∧ t = s.idleTick) ∨
    (s.tickCase = .halted ∧ t = s.haltedTick) ∨
    (∃ s' c rest, ((s.tickCase = .startService ∧ s' = s.startService) ∨ (s.tickCase = .startInstr ∧ s' = s.startInstr) ∨
        (s.tickCase = .goOn ∧ s.seq.step ≠ 0#3 ∧ s' = s)) ∧
      s'.remaining = c :: rest ∧ t = c.tick none rest.isEmpty s') := by
  have hseq : ∀ {s' : State}, s'.tickSequence = .next t →
      ∃ c rest, s'.remaining = c :: rest ∧ t = c.tick none rest.isEmpty s' := by
    intro s' hs
    simp only [State.tickSequence] at hs
    split at hs
    · cases hs
    · rename_i c rest hr
      cases hs
      exact ⟨c, rest, hr, rfl⟩
  cases hc : s.tickCase <;> simp only [tick, hc] at h
  · cases h; exact .inl ⟨rfl, rfl⟩
  · cases h; exact .inr (.inl ⟨.inl rfl, rfl⟩)
  · cases h; exact .inr (.inl ⟨.inr rfl, rfl⟩)
  · cases h; exact .inr (.inr (.inl ⟨rfl, rfl⟩))
  · obtain ⟨c, rest, hr, ht⟩ := hseq h
    exact .inr (.inr (.inr ⟨_, c, rest, .inl ⟨rfl, rfl⟩, hr, ht⟩))
  · obtain ⟨c, rest, hr, ht⟩ := hseq h
    exact .inr (.inr (.inr ⟨_, c, rest, .inr (.inl ⟨rfl, rfl⟩), hr, ht⟩))
  · split at h
    · cases h
    · rename_i h0
      obtain ⟨c, rest, hr, ht⟩ := hseq h
      exact .inr (.inr (.inr ⟨_, c, rest, .inr (.inr ⟨rfl, h0, rfl⟩), hr, ht⟩))

/-- Everything a step with a next state can do: the four idle ticks, a whole service sequence, a whole instruction, or
the rest of a sequence in progress (log 1). -/
theorem step_cases {s t : State} (h : step s = .next t) :
    (s.tickCase = .reset ∧ t = s.resetTick) ∨
    ((s.tickCase = .locked ∨ s.tickCase = .held) ∧ t = s.idleTick) ∨
    (s.tickCase = .halted ∧ t = s.haltedTick) ∨
    (s.tickCase = .startService ∧ t = s.service) ∨
    (s.tickCase = .startInstr ∧ exec s.fetched s = .next t) ∨
    (s.tickCase = .goOn ∧ s.seq.step ≠ 0#3 ∧ ∃ c rest, s.remaining = c :: rest ∧ t = runTable [] (c :: rest) s) := by
  cases hc : s.tickCase <;> simp only [step, hc] at h
  · cases h; exact .inl ⟨rfl, rfl⟩
  · cases h; exact .inr (.inl ⟨.inl rfl, rfl⟩)
  · cases h; exact .inr (.inl ⟨.inr rfl, rfl⟩)
  · cases h; exact .inr (.inr (.inl ⟨rfl, rfl⟩))
  · cases h; exact .inr (.inr (.inr (.inl ⟨rfl, rfl⟩)))
  · exact .inr (.inr (.inr (.inr (.inl ⟨rfl, h⟩))))
  · simp only [State.finish] at h
    split at h
    · cases h
    · rename_i h0
      split at h
      · cases h
      · rename_i c rest hr
        cases h
        exact .inr (.inr (.inr (.inr (.inr ⟨rfl, h0, c, rest, hr, rfl⟩))))

/-- A tick refuses only in the middle of a sequence, for a state with no cycle to perform (10_state.md R59; log 9). -/
theorem tick_refused {s : State} {r : Refusal} (h : tick s = .refused r) :
    r = .noSuchCycle := by
  have hseq : ∀ {s' : State}, s'.tickSequence = .refused r → r = .noSuchCycle := by
    intro s' hs
    simp only [State.tickSequence] at hs
    split at hs <;> cases hs
    rfl
  cases hc : s.tickCase <;> simp only [tick, hc] at h
  · cases h
  · cases h
  · cases h
  · cases h
  · exact hseq h
  · exact hseq h
  · split at h
    · cases h; rfl
    · exact hseq h

end Sys2Proof.Machine
end

