-- ==== Sys2Proof/Tests/Slice0.lean ====
section
/-! SUPPORT. Tests: what WellFormed refuses, a word of every row decoded, single steps with the results the spec gives
for them, and a witness for the hypotheses of every obligation. -/

namespace Sys2Proof.Tests

open Sys2Proof Sys2Proof.Machine

/-! ### Well-formedness (30_encoding.md R120) -/

/-- The only check: the row PREFIX alone is not a complete instruction. -/
theorem test_wellformed_refuses_prefix_alone : WellFormed .prefixByte = false := by decide

theorem test_wellformed_admits_a_prefixed_instruction : WellFormed (.setR .o1 .e) = true := by decide

/-! ### Decoding: each row's encoding column with its fields written out (30_encoding.md R113 to R122) -/

theorem test_decode_refuses_nothing_to_read : decode [] = .error .noOpcodeByte := by decide

theorem test_decode_refuses_half_an_instruction :
    decode [0xCB#8] = .error .truncated ∧ decode [0xC3#8, 0x00#8] = .error .truncated := by decide

/-- Each list of bytes decodes to its instruction, with nothing left over. -/
def decodesTo (l : List (List Byte × Instr)) : Bool := l.all (fun p => decide (decode p.1 = .ok (p.2, [])))

/-- 8-bit loads and stores. -/
theorem test_decode_load8 :
  decodesTo [
    ([0b00000010#8], .ldBcA),
    ([0b00001010#8], .ldABc),
    ([0b00010010#8], .ldDeA),
    ([0b00011010#8], .ldADe),
    ([0b00100010#8, 0b01000010#8, 0b00100000#8], (.ldNnA 0x2042)),
    ([0b00101010#8, 0b01000011#8, 0b00100001#8], (.ldANn 0x2143)),
    ([0b00110010#8, 0b10100001#8], (.ldHldA 0xA1)),
    ([0b00111010#8, 0b10100010#8], (.ldAHld 0xA2)),
    ([0b00011110#8, 0b10101001#8], (.ldRN .e 0xA9)),
    ([0b00110110#8, 0b10101010#8], (.ldMN 0xAA)),
    ([0b01111010#8], (.ldRR .a .d)),
    ([0b01000110#8], (.ldRM .b)),
    ([0b01110100#8], (.ldMR .h))] = true := by decide

/-- 8-bit arithmetic, logic and flag instructions with register or no operand. -/
theorem test_decode_alu8_register :
  decodesTo [
    ([0b00100000#8], .scf),
    ([0b00101000#8], .ccf),
    ([0b00110000#8], .cpl),
    ([0b00111100#8], (.incR .a)),
    ([0b00001101#8], (.decR .c)),
    ([0b10000011#8], (.addAR .e)),
    ([0b10001111#8], (.adcAR .a)),
    ([0b10010010#8], (.subAR .d)),
    ([0b10011101#8], (.sbcAR .l)),
    ([0b10100001#8], (.andAR .c)),
    ([0b10101100#8], (.xorAR .h)),
    ([0b10110000#8], (.orAR .b)),
    ([0b10111011#8], (.cpAR .e))] = true := by decide

/-- 8-bit arithmetic and logic with memory or immediate operand. -/
theorem test_decode_alu8_memory_immediate :
  decodesTo [
    ([0b00110100#8], .incM),
    ([0b00110101#8], .decM),
    ([0b10000110#8], .addAM),
    ([0b11000110#8, 0b10110010#8], (.addAN 0xB2)),
    ([0b10001110#8], .adcAM),
    ([0b11001110#8, 0b10110101#8], (.adcAN 0xB5)),
    ([0b10010110#8], .subAM),
    ([0b11010110#8, 0b10111000#8], (.subAN 0xB8)),
    ([0b10011110#8], .sbcAM),
    ([0b11011110#8, 0b10111011#8], (.sbcAN 0xBB)),
    ([0b10100110#8], .andAM),
    ([0b11100110#8, 0b10111110#8], (.andAN 0xBE)),
    ([0b10101110#8], .xorAM),
    ([0b11101110#8, 0b11000001#8], (.xorAN 0xC1)),
    ([0b10110110#8], .orAM),
    ([0b11110110#8, 0b11000100#8], (.orAN 0xC4)),
    ([0b10111110#8], .cpAM),
    ([0b11111110#8, 0b11000111#8], (.cpAN 0xC7))] = true := by decide

/-- 16-bit loads and the stack. -/
theorem test_decode_load16_stack :
  decodesTo [
    ([0b00000001#8, 0b00111100#8, 0b00011010#8], (.ldPpNn .bc 0x1A3C)),
    ([0b11100001#8], (.popQq .hl)),
    ([0b11110001#8], .popAf),
    ([0b11111001#8], .ldSpHl),
    ([0b11000101#8], (.pushQq .bc)),
    ([0b11110101#8], .pushAf)] = true := by decide

/-- 16-bit arithmetic. -/
theorem test_decode_arith16 :
  decodesTo [
    ([0b00011001#8], (.addHlPp .de)),
    ([0b00100011#8], (.incPp .hl)),
    ([0b00111011#8], (.decPp .sp))] = true := by decide

/-- Control flow. -/
theorem test_decode_control :
  decodesTo [
    ([0b00001000#8, 0b10010010#8], (.jr 0x92)),
    ([0b00110111#8, 0b10101011#8], (.jrCc .p 0xAB)),
    ([0b11101000#8], (.retCc .v)),
    ([0b11001001#8], .ret),
    ([0b11011001#8], .reti),
    ([0b11101001#8], .jpHl),
    ([0b11010010#8, 0b01110010#8, 0b01010000#8], (.jpCc .nc 0x5072)),
    ([0b11000011#8, 0b01110011#8, 0b01010001#8], (.jp 0x5173)),
    ([0b11101100#8, 0b01111011#8, 0b01011001#8], (.callCc .v 0x597B)),
    ([0b11001101#8, 0b01111110#8, 0b01011100#8], (.call 0x5C7E))] = true := by decide

/-- System instructions and undefined opcodes. -/
theorem test_decode_system :
  decodesTo [
    ([0b00000000#8], .nop),
    ([0b00010000#8], .di),
    ([0b00011000#8], .ei),
    ([0b00111000#8], .swi),
    ([0b01110110#8], .halt),
    ([0b11010011#8], .undAliasD3),
    ([0b11011011#8], .undAliasDB),
    ([0b11100011#8], .undAliasE3),
    ([0b11101011#8], .undAliasEB),
    ([0b11110011#8], .ldFA),
    ([0b11111011#8], .ldAF),
    ([0b11011101#8], .undLockDD),
    ([0b11101101#8], .undLockED),
    ([0b11111101#8], .undLockFD),
    ([0b11111111#8], (.undTrap .o7))] = true := by decide

/-- The prefixed rotates and shifts. -/
theorem test_decode_prefixed_shift :
  decodesTo [
    ([0b11001011#8, 0b00000010#8], (.rlcR .d)),
    ([0b11001011#8, 0b00000110#8], .rlcM),
    ([0b11001011#8, 0b00001100#8], (.rrcR .h)),
    ([0b11001011#8, 0b00001110#8], .rrcM),
    ([0b11001011#8, 0b00010111#8], (.rlR .a)),
    ([0b11001011#8, 0b00010110#8], .rlM),
    ([0b11001011#8, 0b00011001#8], (.rrR .c)),
    ([0b11001011#8, 0b00011110#8], .rrM),
    ([0b11001011#8, 0b00100011#8], (.slaR .e)),
    ([0b11001011#8, 0b00100110#8], .slaM),
    ([0b11001011#8, 0b00101101#8], (.sraR .l)),
    ([0b11001011#8, 0b00101110#8], .sraM),
    ([0b11001011#8, 0b00110000#8], (.swapR .b)),
    ([0b11001011#8, 0b00110110#8], .swapM),
    ([0b11001011#8, 0b00111010#8], (.srlR .d)),
    ([0b11001011#8, 0b00111110#8], .srlM)] = true := by decide

/-- The prefixed bit instructions. -/
theorem test_decode_prefixed_bit :
  decodesTo [
    ([0b11001011#8, 0b01100100#8], (.bitR .o4 .h)),
    ([0b11001011#8, 0b01001110#8], (.bitM .o1)),
    ([0b11001011#8, 0b10110111#8], (.resR .o6 .a)),
    ([0b11001011#8, 0b10011110#8], (.resM .o3)),
    ([0b11001011#8, 0b11000001#8], (.setR .o0 .c)),
    ([0b11001011#8, 0b11101110#8], (.setM .o5))] = true := by decide

/-- A one-byte table word: bit 0 is the least significant bit of the first byte (log 10). -/
theorem test_table_word_order : decodeTableWord 16 0xC1CB = some (.setR .o0 .c) ∧
    decodeTableWord 24 0x0150C3 = some (.jp 0x0150) ∧ decodeTableWord 8 0xC3 = some (.jp 0x0000) := by decide

/-! ### One step of each instruction -/

/-- The reset state with a program counter, stack pointer, A, flag byte, BC, DE, HL, IME and some bytes of memory. -/
def before (pc sp : Word) (a f : Byte) (bc de hl : Word) (ime : Bool) (cells : List (Word × Byte)) : State :=
  { State.reset with
    regs := ⟨a, hiByte bc, loByte bc, hiByte de, loByte de, hiByte hl, loByte hl⟩
    flags := unpack f, pc := pc, sp := sp, ime := ime, mem := State.reset.mem.writeAll cells }

/-- The bus cycles of the step, first one first, and what `look` reads of its next state. -/
def after {α : Type} (o : Host.Outcome State Fault Refusal) (look : State → α) : Option (List BusCycle × α) :=
  (nextState o).map (fun t => (t.log.reverse, look t))

/-- LD A,B (95_test_vectors.md part 2). -/
theorem test_ldRR_1 :
    after (step (before 0x0000 0x0000 0x00 0x00 0x1200 0x0000 0x0000 false
      [(0x0000, 0x78)])) (fun t => (t.pc, t.readAF)) =
    some ([.read 0x0000 0x78],
      0x0001, 0x1220) := by decide

/-- LD H,L (95_test_vectors.md part 2). -/
theorem test_ldRR_2 :
    after (step (before 0x0000 0x0000 0x00 0x00 0x0000 0x0000 0x12AB false
      [(0x0000, 0x65)])) (fun t => (t.pc, t.readAF, t.readPair .hl)) =
    some ([.read 0x0000 0x65],
      0x0001, 0x0020, 0xABAB) := by decide

/-- LD C,(HL) (95_test_vectors.md part 2). -/
theorem test_ldRM_1 :
    after (step (before 0x0000 0x0000 0x00 0x00 0x0000 0x0000 0x8000 false
      [(0x8000, 0x5A), (0x0000, 0x4E)])) (fun t => (t.pc, t.readAF, t.readPair .bc)) =
    some ([.read 0x0000 0x4E, .read 0x8000 0x5A],
      0x0001, 0x0020, 0x005A) := by decide

/-- LD L,(HL) (95_test_vectors.md part 2). -/
theorem test_ldRM_2 :
    after (step (before 0x0000 0x0000 0x00 0x00 0x0000 0x0000 0x8000 false
      [(0x8000, 0x5A), (0x0000, 0x6E)])) (fun t => (t.pc, t.readAF, t.readPair .hl)) =
    some ([.read 0x0000 0x6E, .read 0x8000 0x5A],
      0x0001, 0x0020, 0x805A) := by decide

/-- LD (HL),A (95_test_vectors.md part 2). -/
theorem test_ldMR_1 :
    after (step (before 0x0000 0x0000 0x99 0x00 0x0000 0x0000 0x8000 false
      [(0x0000, 0x77)])) (fun t => (t.pc, t.readAF, t.mem.read 0x8000)) =
    some ([.read 0x0000 0x77, .write 0x8000 0x99],
      0x0001, 0x9920, 0x99) := by decide

/-- LD (HL),H (95_test_vectors.md part 2). -/
theorem test_ldMR_2 :
    after (step (before 0x0000 0x0000 0x00 0x00 0x0000 0x0000 0x8000 false
      [(0x0000, 0x74)])) (fun t => (t.pc, t.readAF, t.mem.read 0x8000)) =
    some ([.read 0x0000 0x74, .write 0x8000 0x80],
      0x0001, 0x0020, 0x80) := by decide

/-- LD A,0x3A (95_test_vectors.md part 2). -/
theorem test_ldRN_1 :
    after (step (before 0x0000 0x0000 0x00 0x00 0x0000 0x0000 0x0000 false
      [(0x0000, 0x3E), (0x0001, 0x3A)])) (fun t => (t.pc, t.readAF)) =
    some ([.read 0x0000 0x3E, .read 0x0001 0x3A],
      0x0002, 0x3A20) := by decide

/-- LD (HL),0x7F (95_test_vectors.md part 2). -/
theorem test_ldMN_1 :
    after (step (before 0x0000 0x0000 0x00 0x00 0x0000 0x0000 0xC000 false
      [(0x0000, 0x36), (0x0001, 0x7F)])) (fun t => (t.pc, t.readAF, t.mem.read 0xC000)) =
    some ([.read 0x0000 0x36, .read 0x0001 0x7F, .write 0xC000 0x7F],
      0x0002, 0x0020, 0x7F) := by decide

/-- LD A,(BC) (95_test_vectors.md part 2). -/
theorem test_ldABc_1 :
    after (step (before 0x0000 0x0000 0x00 0x00 0x1234 0x0000 0x0000 false
      [(0x1234, 0x77), (0x0000, 0x0A)])) (fun t => (t.pc, t.readAF)) =
    some ([.read 0x0000 0x0A, .read 0x1234 0x77],
      0x0001, 0x7720) := by decide

/-- LD A,(DE) (95_test_vectors.md part 2). -/
theorem test_ldADe_1 :
    after (step (before 0x0000 0x0000 0x00 0x00 0x0000 0x2000 0x0000 false
      [(0x2000, 0x01), (0x0000, 0x1A)])) (fun t => (t.pc, t.readAF)) =
    some ([.read 0x0000 0x1A, .read 0x2000 0x01],
      0x0001, 0x0120) := by decide

/-- LD (BC),A (95_test_vectors.md part 2). -/
theorem test_ldBcA_1 :
    after (step (before 0x0000 0x0000 0xAB 0x00 0x1234 0x0000 0x0000 false
      [(0x0000, 0x02)])) (fun t => (t.pc, t.readAF, t.mem.read 0x1234)) =
    some ([.read 0x0000 0x02, .write 0x1234 0xAB],
      0x0001, 0xAB20, 0xAB) := by decide

/-- LD (DE),A (95_test_vectors.md part 2). -/
theorem test_ldDeA_1 :
    after (step (before 0x0000 0x0000 0xCD 0x00 0x0000 0x2000 0x0000 false
      [(0x0000, 0x12)])) (fun t => (t.pc, t.readAF, t.mem.read 0x2000)) =
    some ([.read 0x0000 0x12, .write 0x2000 0xCD],
      0x0001, 0xCD20, 0xCD) := by decide

/-- LD A,(0xC010) (95_test_vectors.md part 2). -/
theorem test_ldANn_1 :
    after (step (before 0x0000 0x0000 0x00 0x00 0x0000 0x0000 0x0000 false
      [(0xC010, 0x42), (0x0000, 0x2A), (0x0001, 0x10), (0x0002, 0xC0)])) (fun t => (t.pc, t.readAF)) =
    some ([.read 0x0000 0x2A, .read 0x0001 0x10, .read 0x0002 0xC0, .read 0xC010 0x42],
      0x0003, 0x4220) := by decide

/-- LD (0xFFFF),A (95_test_vectors.md part 2). -/
theorem test_ldNnA_1 :
    after (step (before 0x0000 0x0000 0x05 0x00 0x0000 0x0000 0x0000 false
      [(0x0000, 0x22), (0x0001, 0xFF), (0x0002, 0xFF)])) (fun t => (t.pc, t.readAF, t.mem.read 0xFFFF)) =
    some ([.read 0x0000 0x22, .read 0x0001 0xFF, .read 0x0002 0xFF, .write 0xFFFF 0x05],
      0x0003, 0x0520, 0x05) := by decide

/-- LD A,(HL+5) (95_test_vectors.md part 2). -/
theorem test_ldAHld_1 :
    after (step (before 0x0000 0x0000 0x00 0x00 0x0000 0x0000 0xC000 false
      [(0xC005, 0x66), (0x0000, 0x3A), (0x0001, 0x05)])) (fun t => (t.pc, t.readAF)) =
    some ([.read 0x0000 0x3A, .read 0x0001 0x05, .idle none, .read 0xC005 0x66],
      0x0002, 0x6620) := by decide

/-- LD A,(HL-3) (95_test_vectors.md part 2). -/
theorem test_ldAHld_2 :
    after (step (before 0x0000 0x0000 0x00 0x00 0x0000 0x0000 0xC000 false
      [(0xBFFD, 0x67), (0x0000, 0x3A), (0x0001, 0xFD)])) (fun t => (t.pc, t.readAF)) =
    some ([.read 0x0000 0x3A, .read 0x0001 0xFD, .idle none, .read 0xBFFD 0x67],
      0x0002, 0x6720) := by decide

/-- LD (HL+2),A (95_test_vectors.md part 2). -/
theorem test_ldHldA_1 :
    after (step (before 0x0000 0x0000 0x11 0x00 0x0000 0x0000 0xC000 false
      [(0x0000, 0x32), (0x0001, 0x02)])) (fun t => (t.pc, t.readAF, t.mem.read 0xC002)) =
    some ([.read 0x0000 0x32, .read 0x0001 0x02, .idle none, .write 0xC002 0x11],
      0x0002, 0x1120, 0x11) := by decide

/-- LD (HL+127),A (95_test_vectors.md part 2). -/
theorem test_ldHldA_2 :
    after (step (before 0x0000 0x0000 0x22 0x00 0x0000 0x0000 0xFFFF false
      [(0x0000, 0x32), (0x0001, 0x7F)])) (fun t => (t.pc, t.readAF, t.mem.read 0x007E)) =
    some ([.read 0x0000 0x32, .read 0x0001 0x7F, .idle none, .write 0x007E 0x22],
      0x0002, 0x2220, 0x22) := by decide

/-- ADD A,B (95_test_vectors.md part 2). -/
theorem test_addAR_1 :
    after (step (before 0x0000 0x0000 0x3A 0x00 0xC600 0x0000 0x0000 false
      [(0x0000, 0x80)])) (fun t => (t.pc, t.readAF)) =
    some ([.read 0x0000 0x80],
      0x0001, 0x0071) := by decide

/-- ADC A,0xC6 (95_test_vectors.md part 2). -/
theorem test_adcAN_1 :
    after (step (before 0x0000 0x0000 0x3A 0x01 0x0000 0x0000 0x0000 false
      [(0x0000, 0xCE), (0x0001, 0xC6)])) (fun t => (t.pc, t.readAF)) =
    some ([.read 0x0000 0xCE, .read 0x0001 0xC6],
      0x0002, 0x0131) := by decide

/-- ADD A,(HL) (95_test_vectors.md part 2). -/
theorem test_addAM_1 :
    after (step (before 0x0000 0x0000 0x7F 0x00 0x0000 0x0000 0xC000 false
      [(0xC000, 0x01), (0x0000, 0x86)])) (fun t => (t.pc, t.readAF)) =
    some ([.read 0x0000 0x86, .read 0xC000 0x01],
      0x0001, 0x80B4) := by decide

/-- ADD A,A (95_test_vectors.md part 2). -/
theorem test_addAR_2 :
    after (step (before 0x0000 0x0000 0x80 0x00 0x0000 0x0000 0x0000 false
      [(0x0000, 0x87)])) (fun t => (t.pc, t.readAF)) =
    some ([.read 0x0000 0x87],
      0x0001, 0x0065) := by decide

/-- SUB A,E (95_test_vectors.md part 2). -/
theorem test_subAR_1 :
    after (step (before 0x0000 0x0000 0x3E 0x00 0x0000 0x003E 0x0000 false
      [(0x0000, 0x93)])) (fun t => (t.pc, t.readAF)) =
    some ([.read 0x0000 0x93],
      0x0001, 0x0060) := by decide

/-- SUB A,0x01 (95_test_vectors.md part 2). -/
theorem test_subAN_1 :
    after (step (before 0x0000 0x0000 0x00 0x00 0x0000 0x0000 0x0000 false
      [(0x0000, 0xD6), (0x0001, 0x01)])) (fun t => (t.pc, t.readAF)) =
    some ([.read 0x0000 0xD6, .read 0x0001 0x01],
      0x0002, 0xFFB1) := by decide

/-- SBC A,(HL) (95_test_vectors.md part 2). -/
theorem test_sbcAM_1 :
    after (step (before 0x0000 0x0000 0x3B 0x01 0x0000 0x0000 0xC000 false
      [(0xC000, 0x2A), (0x0000, 0x9E)])) (fun t => (t.pc, t.readAF)) =
    some ([.read 0x0000 0x9E, .read 0xC000 0x2A],
      0x0001, 0x1020) := by decide

/-- AND A,0x3F (95_test_vectors.md part 2). -/
theorem test_andAN_1 :
    after (step (before 0x0000 0x0000 0x5A 0xF5 0x0000 0x0000 0x0000 false
      [(0x0000, 0xE6), (0x0001, 0x3F)])) (fun t => (t.pc, t.readAF)) =
    some ([.read 0x0000 0xE6, .read 0x0001 0x3F],
      0x0002, 0x1A20) := by decide

/-- XOR A,A (95_test_vectors.md part 2). -/
theorem test_xorAR_1 :
    after (step (before 0x0000 0x0000 0x5A 0xF5 0x0000 0x0000 0x0000 false
      [(0x0000, 0xAF)])) (fun t => (t.pc, t.readAF)) =
    some ([.read 0x0000 0xAF],
      0x0001, 0x0060) := by decide

/-- OR A,A (95_test_vectors.md part 2). -/
theorem test_orAR_1 :
    after (step (before 0x0000 0x0000 0x80 0x55 0x0000 0x0000 0x0000 false
      [(0x0000, 0xB7)])) (fun t => (t.pc, t.readAF)) =
    some ([.read 0x0000 0xB7],
      0x0001, 0x80A0) := by decide

/-- CP A,0x40 (95_test_vectors.md part 2). -/
theorem test_cpAN_1 :
    after (step (before 0x0000 0x0000 0x3C 0x00 0x0000 0x0000 0x0000 false
      [(0x0000, 0xFE), (0x0001, 0x40)])) (fun t => (t.pc, t.readAF)) =
    some ([.read 0x0000 0xFE, .read 0x0001 0x40],
      0x0002, 0x3CA1) := by decide

/-- CP A,(HL) (95_test_vectors.md part 2). -/
theorem test_cpAM_1 :
    after (step (before 0x0000 0x0000 0x3C 0x00 0x0000 0x0000 0xC000 false
      [(0xC000, 0x3C), (0x0000, 0xBE)])) (fun t => (t.pc, t.readAF)) =
    some ([.read 0x0000 0xBE, .read 0xC000 0x3C],
      0x0001, 0x3C60) := by decide

/-- INC A (95_test_vectors.md part 2). -/
theorem test_incR_1 :
    after (step (before 0x0000 0x0000 0x0F 0x01 0x0000 0x0000 0x0000 false
      [(0x0000, 0x3C)])) (fun t => (t.pc, t.readAF)) =
    some ([.read 0x0000 0x3C],
      0x0001, 0x1031) := by decide

/-- INC B (0xFF) (95_test_vectors.md part 2). -/
theorem test_incR_2 :
    after (step (before 0x0000 0x0000 0x00 0x01 0xFF00 0x0000 0x0000 false
      [(0x0000, 0x04)])) (fun t => (t.pc, t.readAF, t.readPair .bc)) =
    some ([.read 0x0000 0x04],
      0x0001, 0x0071, 0x0000) := by decide

/-- INC (HL) (95_test_vectors.md part 2). -/
theorem test_incM_1 :
    after (step (before 0x0000 0x0000 0x00 0x00 0x0000 0x0000 0xC000 false
      [(0xC000, 0x7F), (0x0000, 0x34)])) (fun t => (t.pc, t.readAF, t.mem.read 0xC000)) =
    some ([.read 0x0000 0x34, .read 0xC000 0x7F, .write 0xC000 0x80],
      0x0001, 0x00B4, 0x80) := by decide

/-- DEC B (95_test_vectors.md part 2). -/
theorem test_decR_1 :
    after (step (before 0x0000 0x0000 0x00 0x00 0x0100 0x0000 0x0000 false
      [(0x0000, 0x05)])) (fun t => (t.pc, t.readAF, t.readPair .bc)) =
    some ([.read 0x0000 0x05],
      0x0001, 0x0060, 0x0000) := by decide

/-- DEC A (0x00) (95_test_vectors.md part 2). -/
theorem test_decR_2 :
    after (step (before 0x0000 0x0000 0x00 0x01 0x0000 0x0000 0x0000 false
      [(0x0000, 0x3D)])) (fun t => (t.pc, t.readAF)) =
    some ([.read 0x0000 0x3D],
      0x0001, 0xFFB1) := by decide

/-- DEC (HL) (95_test_vectors.md part 2). -/
theorem test_decM_1 :
    after (step (before 0x0000 0x0000 0x00 0x00 0x0000 0x0000 0xC000 false
      [(0xC000, 0x10), (0x0000, 0x35)])) (fun t => (t.pc, t.readAF, t.mem.read 0xC000)) =
    some ([.read 0x0000 0x35, .read 0xC000 0x10, .write 0xC000 0x0F],
      0x0001, 0x0030, 0x0F) := by decide

/-- CPL (95_test_vectors.md part 2). -/
theorem test_cpl_1 :
    after (step (before 0x0000 0x0000 0x35 0xF5 0x0000 0x0000 0x0000 false
      [(0x0000, 0x30)])) (fun t => (t.pc, t.readAF)) =
    some ([.read 0x0000 0x30],
      0x0001, 0xCAF5) := by decide

/-- SCF (95_test_vectors.md part 2). -/
theorem test_scf_1 :
    after (step (before 0x0000 0x0000 0x00 0x60 0x0000 0x0000 0x0000 false
      [(0x0000, 0x20)])) (fun t => (t.pc, t.readAF)) =
    some ([.read 0x0000 0x20],
      0x0001, 0x0061) := by decide

/-- CCF (95_test_vectors.md part 2). -/
theorem test_ccf_1 :
    after (step (before 0x0000 0x0000 0x00 0x61 0x0000 0x0000 0x0000 false
      [(0x0000, 0x28)])) (fun t => (t.pc, t.readAF)) =
    some ([.read 0x0000 0x28],
      0x0001, 0x0060) := by decide

/-- CCF (95_test_vectors.md part 2). -/
theorem test_ccf_2 :
    after (step (before 0x0000 0x0000 0x00 0x20 0x0000 0x0000 0x0000 false
      [(0x0000, 0x28)])) (fun t => (t.pc, t.readAF)) =
    some ([.read 0x0000 0x28],
      0x0001, 0x0021) := by decide

/-- LD HL,0xC000 (95_test_vectors.md part 2). -/
theorem test_ldPpNn_1 :
    after (step (before 0x0000 0x0000 0x00 0x00 0x0000 0x0000 0x0000 false
      [(0x0000, 0x21), (0x0001, 0x00), (0x0002, 0xC0)])) (fun t => (t.pc, t.readAF, t.readPair .hl)) =
    some ([.read 0x0000 0x21, .read 0x0001 0x00, .read 0x0002 0xC0],
      0x0003, 0x0020, 0xC000) := by decide

/-- LD SP,0xFFFE (95_test_vectors.md part 2). -/
theorem test_ldPpNn_2 :
    after (step (before 0x0000 0x0000 0x00 0x00 0x0000 0x0000 0x0000 false
      [(0x0000, 0x31), (0x0001, 0xFE), (0x0002, 0xFF)])) (fun t => (t.pc, t.readAF, t.sp)) =
    some ([.read 0x0000 0x31, .read 0x0001 0xFE, .read 0x0002 0xFF],
      0x0003, 0x0020, 0xFFFE) := by decide

/-- LD SP,HL (95_test_vectors.md part 2). -/
theorem test_ldSpHl_1 :
    after (step (before 0x0000 0x0000 0x00 0x00 0x0000 0x0000 0xD000 false
      [(0x0000, 0xF9)])) (fun t => (t.pc, t.readAF, t.sp)) =
    some ([.read 0x0000 0xF9, .idle none],
      0x0001, 0x0020, 0xD000) := by decide

/-- PUSH BC (95_test_vectors.md part 2). -/
theorem test_pushQq_1 :
    after (step (before 0x0000 0xC000 0x00 0x00 0x1234 0x0000 0x0000 false
      [(0x0000, 0xC5)])) (fun t => (t.pc, t.readAF, t.sp, [t.mem.read 0xBFFF, t.mem.read 0xBFFE])) =
    some ([.read 0x0000 0xC5, .idle none, .write 0xBFFF 0x12, .write 0xBFFE 0x34],
      0x0001, 0x0020, 0xBFFE, [0x12, 0x34]) := by decide

/-- PUSH HL (SP=1) (95_test_vectors.md part 2). -/
theorem test_pushQq_2 :
    after (step (before 0x0100 0x0001 0x00 0x00 0x0000 0x0000 0xABCD false
      [(0x0100, 0xE5)])) (fun t => (t.pc, t.readAF, t.sp, [t.mem.read 0x0000, t.mem.read 0xFFFF])) =
    some ([.read 0x0100 0xE5, .idle none, .write 0x0000 0xAB, .write 0xFFFF 0xCD],
      0x0101, 0x0020, 0xFFFF, [0xAB, 0xCD]) := by decide

/-- POP DE (95_test_vectors.md part 2). -/
theorem test_popQq_1 :
    after (step (before 0x0000 0xBFFE 0x00 0x00 0x0000 0x0000 0x0000 false
      [(0xBFFE, 0x34), (0xBFFF, 0x12), (0x0000, 0xD1)])) (fun t => (t.pc, t.readAF, t.readPair .de, t.sp)) =
    some ([.read 0x0000 0xD1, .read 0xBFFE 0x34, .read 0xBFFF 0x12],
      0x0001, 0x0020, 0x1234, 0xC000) := by decide

/-- POP BC (SP=FFFF) (95_test_vectors.md part 2). -/
theorem test_popQq_2 :
    after (step (before 0x0100 0xFFFF 0x00 0x00 0x0000 0x0000 0x0000 false
      [(0xFFFF, 0x11), (0x0000, 0x22), (0x0100, 0xC1)])) (fun t => (t.pc, t.readAF, t.readPair .bc, t.sp)) =
    some ([.read 0x0100 0xC1, .read 0xFFFF 0x11, .read 0x0000 0x22],
      0x0101, 0x0020, 0x2211, 0x0001) := by decide

/-- PUSH AF (95_test_vectors.md part 2). -/
theorem test_pushAf_1 :
    after (step (before 0x0000 0xC000 0x12 0x81 0x0000 0x0000 0x0000 false
      [(0x0000, 0xF5)])) (fun t => (t.pc, t.readAF, t.sp, [t.mem.read 0xBFFF, t.mem.read 0xBFFE])) =
    some ([.read 0x0000 0xF5, .idle none, .write 0xBFFF 0x12, .write 0xBFFE 0xA1],
      0x0001, 0x12A1, 0xBFFE, [0x12, 0xA1]) := by decide

/-- POP AF (FF) (95_test_vectors.md part 2). -/
theorem test_popAf_1 :
    after (step (before 0x0000 0xBFFE 0x00 0x00 0x0000 0x0000 0x0000 false
      [(0xBFFE, 0xFF), (0xBFFF, 0x80), (0x0000, 0xF1)])) (fun t => (t.pc, t.readAF, t.sp)) =
    some ([.read 0x0000 0xF1, .read 0xBFFE 0xFF, .read 0xBFFF 0x80],
      0x0001, 0x80F5, 0xC000) := by decide

/-- POP AF (00) (95_test_vectors.md part 2). -/
theorem test_popAf_2 :
    after (step (before 0x0000 0xBFFE 0x00 0xF5 0x0000 0x0000 0x0000 false
      [(0xBFFE, 0x00), (0xBFFF, 0x7E), (0x0000, 0xF1)])) (fun t => (t.pc, t.readAF, t.sp)) =
    some ([.read 0x0000 0xF1, .read 0xBFFE 0x00, .read 0xBFFF 0x7E],
      0x0001, 0x7E20, 0xC000) := by decide

/-- INC HL (95_test_vectors.md part 2). -/
theorem test_incPp_1 :
    after (step (before 0x0000 0x0000 0x00 0xF5 0x0000 0x0000 0xC0FF false
      [(0x0000, 0x23)])) (fun t => (t.pc, t.readAF, t.readPair .hl)) =
    some ([.read 0x0000 0x23, .idle none],
      0x0001, 0x00F5, 0xC100) := by decide

/-- INC SP (95_test_vectors.md part 2). -/
theorem test_incPp_2 :
    after (step (before 0x0000 0xFFFF 0x00 0x00 0x0000 0x0000 0x0000 false
      [(0x0000, 0x33)])) (fun t => (t.pc, t.readAF, t.sp)) =
    some ([.read 0x0000 0x33, .idle none],
      0x0001, 0x0020, 0x0000) := by decide

/-- DEC BC (95_test_vectors.md part 2). -/
theorem test_decPp_1 :
    after (step (before 0x0000 0x0000 0x00 0x00 0x0100 0x0000 0x0000 false
      [(0x0000, 0x0B)])) (fun t => (t.pc, t.readAF, t.readPair .bc)) =
    some ([.read 0x0000 0x0B, .idle none],
      0x0001, 0x0020, 0x00FF) := by decide

/-- DEC DE (95_test_vectors.md part 2). -/
theorem test_decPp_2 :
    after (step (before 0x0000 0x0000 0x00 0x00 0x0000 0x0000 0x0000 false
      [(0x0000, 0x1B)])) (fun t => (t.pc, t.readAF, t.readPair .de)) =
    some ([.read 0x0000 0x1B, .idle none],
      0x0001, 0x0020, 0xFFFF) := by decide

/-- ADD HL,BC (95_test_vectors.md part 2). -/
theorem test_addHlPp_1 :
    after (step (before 0x0000 0x0000 0x00 0xC5 0x0605 0x0000 0x8A23 false
      [(0x0000, 0x09)])) (fun t => (t.pc, t.readAF, t.readPair .hl)) =
    some ([.read 0x0000 0x09, .idle none],
      0x0001, 0x00F4, 0x9028) := by decide

/-- ADD HL,HL (95_test_vectors.md part 2). -/
theorem test_addHlPp_2 :
    after (step (before 0x0000 0x0000 0x00 0x00 0x0000 0x0000 0x8000 false
      [(0x0000, 0x29)])) (fun t => (t.pc, t.readAF, t.readPair .hl)) =
    some ([.read 0x0000 0x29, .idle none],
      0x0001, 0x0021, 0x0000) := by decide

/-- JR +0x0E (95_test_vectors.md part 2). -/
theorem test_jr_1 :
    after (step (before 0x0100 0x0000 0x00 0x00 0x0000 0x0000 0x0000 false
      [(0x0100, 0x08), (0x0101, 0x0E)])) (fun t => (t.pc, t.readAF)) =
    some ([.read 0x0100 0x08, .read 0x0101 0x0E, .idle none],
      0x0110, 0x0020) := by decide

/-- JR -2 (self) (95_test_vectors.md part 2). -/
theorem test_jr_2 :
    after (step (before 0x0100 0x0000 0x00 0x00 0x0000 0x0000 0x0000 false
      [(0x0100, 0x08), (0x0101, 0xFE)])) (fun t => (t.pc, t.readAF)) =
    some ([.read 0x0100 0x08, .read 0x0101 0xFE, .idle none],
      0x0100, 0x0020) := by decide

/-- JR NZ taken (95_test_vectors.md part 2). -/
theorem test_jrCc_1 :
    after (step (before 0x0105 0x0000 0x00 0x00 0x0000 0x0000 0x0000 false
      [(0x0105, 0x07), (0x0106, 0xF9)])) (fun t => (t.pc, t.readAF)) =
    some ([.read 0x0105 0x07, .read 0x0106 0xF9, .idle none],
      0x0100, 0x0020) := by decide

/-- JR NZ not taken (95_test_vectors.md part 2). -/
theorem test_jrCc_2 :
    after (step (before 0x0105 0x0000 0x00 0x40 0x0000 0x0000 0x0000 false
      [(0x0105, 0x07), (0x0106, 0xF9)])) (fun t => (t.pc, t.readAF)) =
    some ([.read 0x0105 0x07, .read 0x0106 0xF9],
      0x0107, 0x0060) := by decide

/-- JP 0x0150 (95_test_vectors.md part 2). -/
theorem test_jp_1 :
    after (step (before 0x0000 0x0000 0x00 0x00 0x0000 0x0000 0x0000 false
      [(0x0000, 0xC3), (0x0001, 0x50), (0x0002, 0x01)])) (fun t => (t.pc, t.readAF)) =
    some ([.read 0x0000 0xC3, .read 0x0001 0x50, .read 0x0002 0x01, .idle none],
      0x0150, 0x0020) := by decide

/-- JP C taken (95_test_vectors.md part 2). -/
theorem test_jpCc_1 :
    after (step (before 0x0000 0x0000 0x00 0x01 0x0000 0x0000 0x0000 false
      [(0x0000, 0xDA), (0x0001, 0x00), (0x0002, 0x20)])) (fun t => (t.pc, t.readAF)) =
    some ([.read 0x0000 0xDA, .read 0x0001 0x00, .read 0x0002 0x20, .idle none],
      0x2000, 0x0021) := by decide

/-- JP C not taken (95_test_vectors.md part 2). -/
theorem test_jpCc_2 :
    after (step (before 0x0000 0x0000 0x00 0x00 0x0000 0x0000 0x0000 false
      [(0x0000, 0xDA), (0x0001, 0x00), (0x0002, 0x20)])) (fun t => (t.pc, t.readAF)) =
    some ([.read 0x0000 0xDA, .read 0x0001 0x00, .read 0x0002 0x20],
      0x0003, 0x0020) := by decide

/-- JP (HL) (95_test_vectors.md part 2). -/
theorem test_jpHl_1 :
    after (step (before 0x0000 0x0000 0x00 0x00 0x0000 0x0000 0x4000 false
      [(0x0000, 0xE9)])) (fun t => (t.pc, t.readAF)) =
    some ([.read 0x0000 0xE9],
      0x4000, 0x0020) := by decide

/-- CALL 0x0010 (95_test_vectors.md part 2). -/
theorem test_call_1 :
    after (step (before 0x0003 0xC000 0x00 0x00 0x0000 0x0000 0x0000 false
      [(0x0003, 0xCD), (0x0004, 0x10), (0x0005, 0x00)])) (fun t => (t.pc, t.readAF, t.sp, [t.mem.read 0xBFFF, t.mem.read 0xBFFE])) =
    some ([.read 0x0003 0xCD, .read 0x0004 0x10, .read 0x0005 0x00, .idle none, .write 0xBFFF 0x00, .write 0xBFFE 0x06],
      0x0010, 0x0020, 0xBFFE, [0x00, 0x06]) := by decide

/-- CALL Z taken (95_test_vectors.md part 2). -/
theorem test_callCc_1 :
    after (step (before 0x0100 0xC000 0x00 0x40 0x0000 0x0000 0x0000 false
      [(0x0100, 0xCC), (0x0101, 0x00), (0x0102, 0x02)])) (fun t => (t.pc, t.readAF, t.sp, [t.mem.read 0xBFFF, t.mem.read 0xBFFE])) =
    some ([.read 0x0100 0xCC, .read 0x0101 0x00, .read 0x0102 0x02, .idle none, .write 0xBFFF 0x01, .write 0xBFFE 0x03],
      0x0200, 0x0060, 0xBFFE, [0x01, 0x03]) := by decide

/-- CALL Z not taken (95_test_vectors.md part 2). -/
theorem test_callCc_2 :
    after (step (before 0x0100 0xC000 0x00 0x00 0x0000 0x0000 0x0000 false
      [(0x0100, 0xCC), (0x0101, 0x00), (0x0102, 0x02)])) (fun t => (t.pc, t.readAF, [t.mem.read 0xBFFF, t.mem.read 0xBFFE])) =
    some ([.read 0x0100 0xCC, .read 0x0101 0x00, .read 0x0102 0x02],
      0x0103, 0x0020, [0x00, 0x00]) := by decide

/-- RET (95_test_vectors.md part 2). -/
theorem test_ret_1 :
    after (step (before 0x0010 0xBFFE 0x00 0x00 0x0000 0x0000 0x0000 false
      [(0xBFFE, 0x06), (0xBFFF, 0x00), (0x0010, 0xC9)])) (fun t => (t.pc, t.readAF, t.sp)) =
    some ([.read 0x0010 0xC9, .read 0xBFFE 0x06, .read 0xBFFF 0x00, .idle none],
      0x0006, 0x0020, 0xC000) := by decide

/-- RET NC taken (95_test_vectors.md part 2). -/
theorem test_retCc_1 :
    after (step (before 0x0010 0xBFFE 0x00 0x00 0x0000 0x0000 0x0000 false
      [(0xBFFE, 0x06), (0xBFFF, 0x00), (0x0010, 0xD0)])) (fun t => (t.pc, t.readAF, t.sp)) =
    some ([.read 0x0010 0xD0, .idle none, .read 0xBFFE 0x06, .read 0xBFFF 0x00, .idle none],
      0x0006, 0x0020, 0xC000) := by decide

/-- RET NC not taken (95_test_vectors.md part 2). -/
theorem test_retCc_2 :
    after (step (before 0x0010 0xBFFE 0x00 0x01 0x0000 0x0000 0x0000 false
      [(0xBFFE, 0x06), (0xBFFF, 0x00), (0x0010, 0xD0)])) (fun t => (t.pc, t.readAF)) =
    some ([.read 0x0010 0xD0, .idle none],
      0x0011, 0x0021) := by decide

/-- RETI (95_test_vectors.md part 2). -/
theorem test_reti_1 :
    after (step (before 0x0040 0xBFFE 0x00 0x00 0x0000 0x0000 0x0000 false
      [(0xBFFE, 0x06), (0xBFFF, 0x00), (0x0040, 0xD9)])) (fun t => (t.pc, t.readAF, t.sp, t.ime)) =
    some ([.read 0x0040 0xD9, .read 0xBFFE 0x06, .read 0xBFFF 0x00, .idle none],
      0x0006, 0x0020, 0xC000, true) := by decide

/-- NOP (95_test_vectors.md part 2). -/
theorem test_nop_1 :
    after (step (before 0x0100 0x0000 0x00 0x00 0x0000 0x0000 0x0000 false
      [(0x0100, 0x00)])) (fun t => (t.pc, t.readAF)) =
    some ([.read 0x0100 0x00],
      0x0101, 0x0020) := by decide

/-- EI (95_test_vectors.md part 2). -/
theorem test_ei_1 :
    after (step (before 0x0000 0x0000 0x00 0x00 0x0000 0x0000 0x0000 false
      [(0x0000, 0x18)])) (fun t => (t.pc, t.readAF, t.ime)) =
    some ([.read 0x0000 0x18],
      0x0001, 0x0020, true) := by decide

/-- DI (95_test_vectors.md part 2). -/
theorem test_di_1 :
    after (step (before 0x0000 0x0000 0x00 0x00 0x0000 0x0000 0x0000 true
      [(0x0000, 0x10)])) (fun t => (t.pc, t.readAF, t.ime)) =
    some ([.read 0x0000 0x10],
      0x0001, 0x0020, false) := by decide

/-- LD A,F (95_test_vectors.md part 2). -/
theorem test_ldAF_1 :
    after (step (before 0x0000 0x0000 0x00 0x51 0x0000 0x0000 0x0000 false
      [(0x0000, 0xFB)])) (fun t => (t.pc, t.readAF)) =
    some ([.read 0x0000 0xFB],
      0x0001, 0x7171) := by decide

/-- LD F,A (FF) (95_test_vectors.md part 2). -/
theorem test_ldFA_1 :
    after (step (before 0x0000 0x0000 0xFF 0x00 0x0000 0x0000 0x0000 false
      [(0x0000, 0xF3)])) (fun t => (t.pc, t.readAF)) =
    some ([.read 0x0000 0xF3],
      0x0001, 0xFFF5) := by decide

/-- LD F,A (00) (95_test_vectors.md part 2). -/
theorem test_ldFA_2 :
    after (step (before 0x0000 0x0000 0x00 0xF5 0x0000 0x0000 0x0000 false
      [(0x0000, 0xF3)])) (fun t => (t.pc, t.readAF)) =
    some ([.read 0x0000 0xF3],
      0x0001, 0x0020) := by decide

/-- SWI (95_test_vectors.md part 2). -/
theorem test_swi_1 :
    after (step (before 0x0120 0xC000 0x00 0x00 0x0000 0x0000 0x0000 true
      [(0x0120, 0x38)])) (fun t => (t.pc, t.readAF, t.sp, t.ime)) =
    some ([.read 0x0120 0x38, .idle none, .write 0xBFFF 0x01, .write 0xBFFE 0x21],
      0x0008, 0x0020, 0xBFFE, true) := by decide

/-- UND.ALIAS D3 (95_test_vectors.md part 2). -/
theorem test_undAliasD3_1 :
    after (step (before 0x0100 0x0000 0x00 0x00 0x0000 0x0000 0x0000 false
      [(0x0100, 0xD3)])) (fun t => (t.pc, t.readAF)) =
    some ([.read 0x0100 0xD3],
      0x0101, 0x0020) := by decide

/-- UND.ALIAS EB (95_test_vectors.md part 2). -/
theorem test_undAliasEB_1 :
    after (step (before 0x0100 0x0000 0x00 0x00 0x0000 0x0000 0x0000 false
      [(0x0100, 0xEB)])) (fun t => (t.pc, t.readAF)) =
    some ([.read 0x0100 0xEB],
      0x0101, 0x0020) := by decide

/-- UND.LOCK DD (95_test_vectors.md part 2). -/
theorem test_undLockDD_1 :
    after (step (before 0x0200 0x0000 0x00 0x00 0x0000 0x0000 0x0000 false
      [(0x0200, 0xDD)])) (fun t => (t.pc, t.readAF, t.locked)) =
    some ([.read 0x0200 0xDD],
      0x0201, 0x0020, true) := by decide

/-- UND.TRAP 7 (FF) (95_test_vectors.md part 2). -/
theorem test_undTrap_1 :
    after (step (before 0x0300 0xC000 0x00 0x00 0x0000 0x0000 0x0000 false
      [(0x0300, 0xFF)])) (fun t => (t.pc, t.readAF, t.sp, [t.mem.read 0xBFFF, t.mem.read 0xBFFE])) =
    some ([.read 0x0300 0xFF, .idle none, .write 0xBFFF 0x03, .write 0xBFFE 0x01],
      0x0010, 0x0020, 0xBFFE, [0x03, 0x01]) := by decide

/-- UND.TRAP 0 (C7) (95_test_vectors.md part 2). -/
theorem test_undTrap_2 :
    after (step (before 0x0300 0xC000 0x00 0x00 0x0000 0x0000 0x0000 false
      [(0x0300, 0xC7)])) (fun t => (t.pc, t.readAF, t.sp, [t.mem.read 0xBFFF, t.mem.read 0xBFFE])) =
    some ([.read 0x0300 0xC7, .idle none, .write 0xBFFF 0x03, .write 0xBFFE 0x01],
      0x0010, 0x0020, 0xBFFE, [0x03, 0x01]) := by decide

/-- HALT (no irq) (95_test_vectors.md part 2). -/
theorem test_halt_1 :
    after (step (before 0x0100 0x0000 0x00 0x00 0x0000 0x0000 0x0000 false
      [(0x0100, 0x76)])) (fun t => (t.pc, t.readAF, t.halted)) =
    some ([.read 0x0100 0x76],
      0x0101, 0x0020, true) := by decide

/-- RLC B (95_test_vectors.md part 2). -/
theorem test_rlcR_1 :
    after (step (before 0x0000 0x0000 0x00 0x00 0x8500 0x0000 0x0000 false
      [(0x0000, 0xCB), (0x0001, 0x00)])) (fun t => (t.pc, t.readAF, t.readPair .bc)) =
    some ([.read 0x0000 0xCB, .read 0x0001 0x00],
      0x0002, 0x0021, 0x0B00) := by decide

/-- RLC (HL) (95_test_vectors.md part 2). -/
theorem test_rlcM_1 :
    after (step (before 0x0000 0x0000 0x00 0x00 0x0000 0x0000 0xC000 false
      [(0xC000, 0x81), (0x0000, 0xCB), (0x0001, 0x06)])) (fun t => (t.pc, t.readAF, t.mem.read 0xC000)) =
    some ([.read 0x0000 0xCB, .read 0x0001 0x06, .read 0xC000 0x81, .write 0xC000 0x03],
      0x0002, 0x0021, 0x03) := by decide

/-- RRC C (95_test_vectors.md part 2). -/
theorem test_rrcR_1 :
    after (step (before 0x0000 0x0000 0x00 0x00 0x0001 0x0000 0x0000 false
      [(0x0000, 0xCB), (0x0001, 0x09)])) (fun t => (t.pc, t.readAF, t.readPair .bc)) =
    some ([.read 0x0000 0xCB, .read 0x0001 0x09],
      0x0002, 0x00A1, 0x0080) := by decide

/-- RL D (95_test_vectors.md part 2). -/
theorem test_rlR_1 :
    after (step (before 0x0000 0x0000 0x00 0x00 0x0000 0x8000 0x0000 false
      [(0x0000, 0xCB), (0x0001, 0x12)])) (fun t => (t.pc, t.readAF, t.readPair .de)) =
    some ([.read 0x0000 0xCB, .read 0x0001 0x12],
      0x0002, 0x0061, 0x0000) := by decide

/-- RL D (CF=1) (95_test_vectors.md part 2). -/
theorem test_rlR_2 :
    after (step (before 0x0000 0x0000 0x00 0x01 0x0000 0x8000 0x0000 false
      [(0x0000, 0xCB), (0x0001, 0x12)])) (fun t => (t.pc, t.readAF, t.readPair .de)) =
    some ([.read 0x0000 0xCB, .read 0x0001 0x12],
      0x0002, 0x0021, 0x0100) := by decide

/-- RR E (95_test_vectors.md part 2). -/
theorem test_rrR_1 :
    after (step (before 0x0000 0x0000 0x00 0x01 0x0000 0x0001 0x0000 false
      [(0x0000, 0xCB), (0x0001, 0x1B)])) (fun t => (t.pc, t.readAF, t.readPair .de)) =
    some ([.read 0x0000 0xCB, .read 0x0001 0x1B],
      0x0002, 0x00A1, 0x0080) := by decide

/-- SLA H (95_test_vectors.md part 2). -/
theorem test_slaR_1 :
    after (step (before 0x0000 0x0000 0x00 0x00 0x0000 0x0000 0xC000 false
      [(0x0000, 0xCB), (0x0001, 0x24)])) (fun t => (t.pc, t.readAF, t.readPair .hl)) =
    some ([.read 0x0000 0xCB, .read 0x0001 0x24],
      0x0002, 0x00A1, 0x8000) := by decide

/-- SRA L (95_test_vectors.md part 2). -/
theorem test_sraR_1 :
    after (step (before 0x0000 0x0000 0x00 0x00 0x0000 0x0000 0x0081 false
      [(0x0000, 0xCB), (0x0001, 0x2D)])) (fun t => (t.pc, t.readAF, t.readPair .hl)) =
    some ([.read 0x0000 0xCB, .read 0x0001 0x2D],
      0x0002, 0x00A1, 0x00C0) := by decide

/-- SWAP A (95_test_vectors.md part 2). -/
theorem test_swapR_1 :
    after (step (before 0x0000 0x0000 0xA5 0xF5 0x0000 0x0000 0x0000 false
      [(0x0000, 0xCB), (0x0001, 0x37)])) (fun t => (t.pc, t.readAF)) =
    some ([.read 0x0000 0xCB, .read 0x0001 0x37],
      0x0002, 0x5A20) := by decide

/-- SWAP A (0) (95_test_vectors.md part 2). -/
theorem test_swapR_2 :
    after (step (before 0x0000 0x0000 0x00 0x00 0x0000 0x0000 0x0000 false
      [(0x0000, 0xCB), (0x0001, 0x37)])) (fun t => (t.pc, t.readAF)) =
    some ([.read 0x0000 0xCB, .read 0x0001 0x37],
      0x0002, 0x0060) := by decide

/-- SRL A (95_test_vectors.md part 2). -/
theorem test_srlR_1 :
    after (step (before 0x0000 0x0000 0x01 0x00 0x0000 0x0000 0x0000 false
      [(0x0000, 0xCB), (0x0001, 0x3F)])) (fun t => (t.pc, t.readAF)) =
    some ([.read 0x0000 0xCB, .read 0x0001 0x3F],
      0x0002, 0x0061) := by decide

/-- SRL (HL) (95_test_vectors.md part 2). -/
theorem test_srlM_1 :
    after (step (before 0x0000 0x0000 0x00 0x00 0x0000 0x0000 0xC000 false
      [(0xC000, 0xFF), (0x0000, 0xCB), (0x0001, 0x3E)])) (fun t => (t.pc, t.readAF, t.mem.read 0xC000)) =
    some ([.read 0x0000 0xCB, .read 0x0001 0x3E, .read 0xC000 0xFF, .write 0xC000 0x7F],
      0x0002, 0x0021, 0x7F) := by decide

/-- BIT 7,A (95_test_vectors.md part 2). -/
theorem test_bitR_1 :
    after (step (before 0x0000 0x0000 0x80 0xF5 0x0000 0x0000 0x0000 false
      [(0x0000, 0xCB), (0x0001, 0x7F)])) (fun t => (t.pc, t.readAF)) =
    some ([.read 0x0000 0xCB, .read 0x0001 0x7F],
      0x0002, 0x80B5) := by decide

/-- BIT 0,A (95_test_vectors.md part 2). -/
theorem test_bitR_2 :
    after (step (before 0x0000 0x0000 0x80 0x00 0x0000 0x0000 0x0000 false
      [(0x0000, 0xCB), (0x0001, 0x47)])) (fun t => (t.pc, t.readAF)) =
    some ([.read 0x0000 0xCB, .read 0x0001 0x47],
      0x0002, 0x8060) := by decide

/-- BIT 3,(HL) (95_test_vectors.md part 2). -/
theorem test_bitM_1 :
    after (step (before 0x0000 0x0000 0x00 0x40 0x0000 0x0000 0xC000 false
      [(0xC000, 0x08), (0x0000, 0xCB), (0x0001, 0x5E)])) (fun t => (t.pc, t.readAF)) =
    some ([.read 0x0000 0xCB, .read 0x0001 0x5E, .read 0xC000 0x08],
      0x0002, 0x0020) := by decide

/-- RES 1,E (95_test_vectors.md part 2). -/
theorem test_resR_1 :
    after (step (before 0x0000 0x0000 0x00 0x00 0x0000 0x00FF 0x0000 false
      [(0x0000, 0xCB), (0x0001, 0x8B)])) (fun t => (t.pc, t.readAF, t.readPair .de)) =
    some ([.read 0x0000 0xCB, .read 0x0001 0x8B],
      0x0002, 0x0020, 0x00FD) := by decide

/-- RES 0,(HL) (95_test_vectors.md part 2). -/
theorem test_resM_1 :
    after (step (before 0x0000 0x0000 0x00 0x00 0x0000 0x0000 0xC000 false
      [(0xC000, 0xFE), (0x0000, 0xCB), (0x0001, 0x86)])) (fun t => (t.pc, t.readAF, t.mem.read 0xC000)) =
    some ([.read 0x0000 0xCB, .read 0x0001 0x86, .read 0xC000 0xFE, .write 0xC000 0xFE],
      0x0002, 0x0020, 0xFE) := by decide

/-- SET 1,E (CB CB) (95_test_vectors.md part 2). -/
theorem test_setR_1 :
    after (step (before 0x0000 0x0000 0x00 0x00 0x0000 0x0000 0x0000 false
      [(0x0000, 0xCB), (0x0001, 0xCB)])) (fun t => (t.pc, t.readAF, t.readPair .de)) =
    some ([.read 0x0000 0xCB, .read 0x0001 0xCB],
      0x0002, 0x0020, 0x0002) := by decide

/-- SET 7,(HL) (95_test_vectors.md part 2). -/
theorem test_setM_1 :
    after (step (before 0x0000 0x0000 0x00 0x00 0x0000 0x0000 0xC000 false
      [(0xC000, 0x01), (0x0000, 0xCB), (0x0001, 0xFE)])) (fun t => (t.pc, t.readAF, t.mem.read 0xC000)) =
    some ([.read 0x0000 0xCB, .read 0x0001 0xFE, .read 0xC000 0x01, .write 0xC000 0x81],
      0x0002, 0x0020, 0x81) := by decide

/-- ADD A,0xFF (95_test_vectors.md 2.3). -/
theorem test_addAN_1 :
    after (step (before 0x0000 0x0000 0x80 0x00 0x0000 0x0000 0x0000 false
      [(0x0000, 0xC6), (0x0001, 0xFF)])) (fun t => (t.pc, t.readAF)) =
    some ([.read 0x0000 0xC6, .read 0x0001 0xFF],
      0x0002, 0x7F25) := by decide

/-- ADC A,B (95_test_vectors.md 2.3). -/
theorem test_adcAR_1 :
    after (step (before 0x0000 0x0000 0xFF 0x01 0x0000 0x0000 0x0000 false
      [(0x0000, 0x88)])) (fun t => (t.pc, t.readAF)) =
    some ([.read 0x0000 0x88],
      0x0001, 0x0071) := by decide

/-- ADC A,(HL) (95_test_vectors.md 2.3). -/
theorem test_adcAM_1 :
    after (step (before 0x0000 0x0000 0x0F 0x01 0x0000 0x0000 0xC000 false
      [(0xC000, 0x00), (0x0000, 0x8E)])) (fun t => (t.pc, t.readAF)) =
    some ([.read 0x0000 0x8E, .read 0xC000 0x00],
      0x0001, 0x1030) := by decide

/-- SUB A,(HL) (95_test_vectors.md 2.3). -/
theorem test_subAM_1 :
    after (step (before 0x0000 0x0000 0x80 0x00 0x0000 0x0000 0xC000 false
      [(0xC000, 0x01), (0x0000, 0x96)])) (fun t => (t.pc, t.readAF)) =
    some ([.read 0x0000 0x96, .read 0xC000 0x01],
      0x0001, 0x7F34) := by decide

/-- SBC A,B (95_test_vectors.md 2.3). -/
theorem test_sbcAR_1 :
    after (step (before 0x0000 0x0000 0x00 0x01 0xFF00 0x0000 0x0000 false
      [(0x0000, 0x98)])) (fun t => (t.pc, t.readAF)) =
    some ([.read 0x0000 0x98],
      0x0001, 0x0071) := by decide

/-- SBC A,0x0F (95_test_vectors.md 2.3). -/
theorem test_sbcAN_1 :
    after (step (before 0x0000 0x0000 0x10 0x01 0x0000 0x0000 0x0000 false
      [(0x0000, 0xDE), (0x0001, 0x0F)])) (fun t => (t.pc, t.readAF)) =
    some ([.read 0x0000 0xDE, .read 0x0001 0x0F],
      0x0002, 0x0070) := by decide

/-- AND A,B (95_test_vectors.md 2.3). -/
theorem test_andAR_1 :
    after (step (before 0x0000 0x0000 0xF0 0x00 0x0F00 0x0000 0x0000 false
      [(0x0000, 0xA0)])) (fun t => (t.pc, t.readAF)) =
    some ([.read 0x0000 0xA0],
      0x0001, 0x0060) := by decide

/-- AND A,(HL) (95_test_vectors.md 2.3). -/
theorem test_andAM_1 :
    after (step (before 0x0000 0x0000 0x5A 0x00 0x0000 0x0000 0xC000 false
      [(0xC000, 0x3F), (0x0000, 0xA6)])) (fun t => (t.pc, t.readAF)) =
    some ([.read 0x0000 0xA6, .read 0xC000 0x3F],
      0x0001, 0x1A20) := by decide

/-- XOR A,(HL) (95_test_vectors.md 2.3). -/
theorem test_xorAM_1 :
    after (step (before 0x0000 0x0000 0x0F 0x00 0x0000 0x0000 0xC000 false
      [(0xC000, 0xFF), (0x0000, 0xAE)])) (fun t => (t.pc, t.readAF)) =
    some ([.read 0x0000 0xAE, .read 0xC000 0xFF],
      0x0001, 0xF0A0) := by decide

/-- XOR A,0x5A (95_test_vectors.md 2.3). -/
theorem test_xorAN_1 :
    after (step (before 0x0000 0x0000 0x5A 0xF5 0x0000 0x0000 0x0000 false
      [(0x0000, 0xEE), (0x0001, 0x5A)])) (fun t => (t.pc, t.readAF)) =
    some ([.read 0x0000 0xEE, .read 0x0001 0x5A],
      0x0002, 0x0060) := by decide

/-- OR A,(HL) (95_test_vectors.md 2.3). -/
theorem test_orAM_1 :
    after (step (before 0x0000 0x0000 0x80 0x00 0x0000 0x0000 0xC000 false
      [(0xC000, 0x80), (0x0000, 0xB6)])) (fun t => (t.pc, t.readAF)) =
    some ([.read 0x0000 0xB6, .read 0xC000 0x80],
      0x0001, 0x80A0) := by decide

/-- OR A,0x00 (95_test_vectors.md 2.3). -/
theorem test_orAN_1 :
    after (step (before 0x0000 0x0000 0x00 0xF5 0x0000 0x0000 0x0000 false
      [(0x0000, 0xF6), (0x0001, 0x00)])) (fun t => (t.pc, t.readAF)) =
    some ([.read 0x0000 0xF6, .read 0x0001 0x00],
      0x0002, 0x0060) := by decide

/-- CP A,B (95_test_vectors.md 2.3). -/
theorem test_cpAR_1 :
    after (step (before 0x0000 0x0000 0x00 0x00 0x0100 0x0000 0x0000 false
      [(0x0000, 0xB8)])) (fun t => (t.pc, t.readAF)) =
    some ([.read 0x0000 0xB8],
      0x0001, 0x00B1) := by decide

/-- RRC (HL) (47_prefixed.md R362, by hand). -/
theorem test_rrcM_1 :
    after (step (before 0x0000 0x0000 0x00 0x00 0x0000 0x0000 0xC000 false
      [(0xC000, 0x01), (0x0000, 0xCB), (0x0001, 0x0E)])) (fun t => (t.pc, t.readAF, t.mem.read 0xC000)) =
    some ([.read 0x0000 0xCB, .read 0x0001 0x0E, .read 0xC000 0x01, .write 0xC000 0x80],
      0x0002, 0x00A1, 0x80) := by decide

/-- RL (HL) (47_prefixed.md R363, by hand). -/
theorem test_rlM_1 :
    after (step (before 0x0000 0x0000 0x00 0x01 0x0000 0x0000 0xC000 false
      [(0xC000, 0x80), (0x0000, 0xCB), (0x0001, 0x16)])) (fun t => (t.pc, t.readAF, t.mem.read 0xC000)) =
    some ([.read 0x0000 0xCB, .read 0x0001 0x16, .read 0xC000 0x80, .write 0xC000 0x01],
      0x0002, 0x0021, 0x01) := by decide

/-- RR (HL) (47_prefixed.md R364, by hand). -/
theorem test_rrM_1 :
    after (step (before 0x0000 0x0000 0x00 0x01 0x0000 0x0000 0xC000 false
      [(0xC000, 0x01), (0x0000, 0xCB), (0x0001, 0x1E)])) (fun t => (t.pc, t.readAF, t.mem.read 0xC000)) =
    some ([.read 0x0000 0xCB, .read 0x0001 0x1E, .read 0xC000 0x01, .write 0xC000 0x80],
      0x0002, 0x00A1, 0x80) := by decide

/-- SLA (HL) (47_prefixed.md R365, by hand). -/
theorem test_slaM_1 :
    after (step (before 0x0000 0x0000 0x00 0x00 0x0000 0x0000 0xC000 false
      [(0xC000, 0xC0), (0x0000, 0xCB), (0x0001, 0x26)])) (fun t => (t.pc, t.readAF, t.mem.read 0xC000)) =
    some ([.read 0x0000 0xCB, .read 0x0001 0x26, .read 0xC000 0xC0, .write 0xC000 0x80],
      0x0002, 0x00A1, 0x80) := by decide

/-- SRA (HL) (47_prefixed.md R366, by hand). -/
theorem test_sraM_1 :
    after (step (before 0x0000 0x0000 0x00 0x00 0x0000 0x0000 0xC000 false
      [(0xC000, 0x81), (0x0000, 0xCB), (0x0001, 0x2E)])) (fun t => (t.pc, t.readAF, t.mem.read 0xC000)) =
    some ([.read 0x0000 0xCB, .read 0x0001 0x2E, .read 0xC000 0x81, .write 0xC000 0xC0],
      0x0002, 0x00A1, 0xC0) := by decide

/-- SWAP (HL) (47_prefixed.md R367, by hand). -/
theorem test_swapM_1 :
    after (step (before 0x0000 0x0000 0x00 0xF5 0x0000 0x0000 0xC000 false
      [(0xC000, 0xA5), (0x0000, 0xCB), (0x0001, 0x36)])) (fun t => (t.pc, t.readAF, t.mem.read 0xC000)) =
    some ([.read 0x0000 0xCB, .read 0x0001 0x36, .read 0xC000 0xA5, .write 0xC000 0x5A],
      0x0002, 0x0020, 0x5A) := by decide

/-- UND.ALIAS DB (46_system.md R343). -/
theorem test_undAliasDB_1 :
    after (step (before 0x0100 0x0000 0x00 0x00 0x0000 0x0000 0x0000 false
      [(0x0100, 0xDB)])) (fun t => (t.pc, t.readAF)) =
    some ([.read 0x0100 0xDB],
      0x0101, 0x0020) := by decide

/-- UND.ALIAS E3 (46_system.md R343). -/
theorem test_undAliasE3_1 :
    after (step (before 0x0100 0x0000 0x00 0x00 0x0000 0x0000 0x0000 false
      [(0x0100, 0xE3)])) (fun t => (t.pc, t.readAF)) =
    some ([.read 0x0100 0xE3],
      0x0101, 0x0020) := by decide

/-- UND.LOCK ED (46_system.md R344). -/
theorem test_undLockED_1 :
    after (step (before 0x0200 0x0000 0x00 0x00 0x0000 0x0000 0x0000 false
      [(0x0200, 0xED)])) (fun t => (t.pc, t.readAF, t.locked)) =
    some ([.read 0x0200 0xED],
      0x0201, 0x0020, true) := by decide

/-- UND.LOCK FD (46_system.md R344). -/
theorem test_undLockFD_1 :
    after (step (before 0x0200 0x0000 0x00 0x00 0x0000 0x0000 0x0000 false
      [(0x0200, 0xFD)])) (fun t => (t.pc, t.readAF, t.locked)) =
    some ([.read 0x0200 0xFD],
      0x0201, 0x0020, true) := by decide

/-! ### Interrupts, HALT and the boundary ticks (95_test_vectors.md 2.8) -/

/-- Every line 0 but IRQ_PENDING, IE and IF. -/
def asks (ie irqFlags : Byte) : TickIn :=
  { TickIn.quiet with irqPending := true, ie := ie, irqFlags := irqFlags }

/-- HALT with IME 0 and an enabled interrupt pending: not halted, the glitch is armed. -/
theorem test_halt_2 :
    after (step { before 0x0100 0xC000 0 0 0 0 0 false [(0x0100, 0x76)] with inputs := [asks 1 1] })
      (fun t => (t.pc, t.halted, t.haltBug, t.irqDetected)) =
    some ([.read 0x0100 0x76], 0x0101, false, true, false) := by decide

/-- EI with IME 0 and an interrupt pending: IME is set, nothing is detected. -/
theorem test_ei_2 :
    after (step { before 0x0100 0xC000 0 0 0 0 0 false [(0x0100, 0x18)] with inputs := [asks 1 1] })
      (fun t => (t.pc, t.ime, t.irqDetected)) =
    some ([.read 0x0100 0x18], 0x0101, true, false) := by decide

/-- DI with IME 1 and an interrupt pending: nothing is detected. -/
theorem test_di_2 :
    after (step { before 0x0100 0xC000 0 0 0 0 0 true [(0x0100, 0x10)] with inputs := [asks 1 1] })
      (fun t => (t.pc, t.ime, t.irqDetected)) =
    some ([.read 0x0100 0x10], 0x0101, false, false) := by decide

/-- NOP with IME 1 and an interrupt pending: the poll point detects. -/
theorem test_nop_2 :
    after (step { before 0x0100 0xC000 0 0 0 0 0 true [(0x0100, 0x00)] with inputs := [asks 1 1] })
      (fun t => (t.pc, t.irqDetected)) =
    some ([.read 0x0100 0x00], 0x0101, true) := by decide

/-- IE = 0C, IF = 0A: the service sequence selects source 3 and goes to 0x0058. -/
theorem test_service_selects_source_3 :
    after (step { before 0x0101 0xC000 0 0 0 0 0 true [] with
        irqDetected := true, inputs := List.replicate 5 (asks 0x0C 0x0A) })
      (fun t => (t.pc, t.sp, t.ime, t.irqDetected)) =
    some ([.idle none, .idle none, .write 0xBFFF 0x01, .write 0xBFFE 0x01, .idle (some 3)],
      0x0058, 0xBFFE, false, false) := by decide

/-- The high byte pushed by the service sequence clears IE: the vector is the fallback (95_test_vectors.md P4). -/
theorem test_service_falls_back :
    after (step { before 0x0101 0x0000 0 0 0 0 0 true [] with
        irqDetected := true, inputs := List.replicate 3 (asks 2 2) ++ [asks 1 2, asks 1 2] })
      (fun t => (t.pc, t.sp)) =
    some ([.idle none, .idle none, .write 0xFFFF 0x01, .write 0xFFFE 0x01, .idle none], 0x0000, 0xFFFE) := by decide

/-- A halted core with IME 0 wakes without detecting (40_sequencer.md R167). -/
theorem test_halted_wakes_without_ime :
    after (step { before 0x0101 0 0 0 0 0 0 false [] with halted := true, inputs := [asks 1 1] })
      (fun t => (t.pc, t.halted, t.irqDetected)) =
    some ([.idle none], 0x0101, false, false) := by decide

/-- A reset tick clears the locked state (40_sequencer.md R164). -/
theorem test_reset_unlocks :
    after (step { before 0x0201 0xC000 1 0 0 0 0 true [] with
        locked := true, inputs := [{ TickIn.quiet with reset := true }] })
      (fun t => (t.pc, t.sp, t.ime, t.locked)) =
    some ([.idle none], 0x0000, 0x0000, false, false) := by decide

/-- The prefix byte with 0x3E after it is SRL (HL) (30_encoding.md R120). -/
theorem test_prefixByte_1 :
    after (exec .prefixByte (before 0 0 0 0 0 0 0xC000 false [(0x0000, 0xCB), (0x0001, 0x3E), (0xC000, 0xFF)]))
      (fun t => (t.pc, t.readAF)) =
    some ([.read 0x0000 0xCB, .read 0x0001 0x3E, .read 0xC000 0xFF, .write 0xC000 0x7F], 0x0002, 0x0021) := by decide

/-- A placed word is fetched and run by the very next step from reset. -/
theorem test_placed_word_runs :
    after (step (State.reset.withFetchWord 16 0xCBCB)) (fun t => (t.pc, t.regs.e)) =
    some ([.read 0x0000 0xCB, .read 0x0001 0xCB], 0x0002, 0x02) := by decide

/-- In the middle of a CALL the next tick is its next cycle, RESET or not (95_test_vectors.md P8). -/
theorem test_tick_inside_call :
    after (tick { before 0x0103 0xC000 0 0 0 0 0 false [] with
        seq := ⟨.exec, 4, 0xCD, false, 0x10, 0x20⟩, inputs := [{ TickIn.quiet with reset := true }] })
      (fun t => (t.seq.mode, t.seq.step, t.sp)) =
    some ([.write 0xBFFF 0x01], .exec, 5, 0xBFFF) := by decide

/-! ### Witnesses: states and operands that meet the hypotheses of the obligations -/

/-- Two samples with an interrupt asked for in the second. -/
def someInputs : List TickIn := [TickIn.quiet, asks 0x81 0x80]

/-- A state at a boundary, with flags, IME 1 and samples waiting, in which no other agent writes. -/
def plain : State :=
  { before 0x0100 0xC000 0x7F 0xD5 0x1234 0x5678 0xC080 true [(0x0100, 0x3C), (0xC080, 0xFF)] with inputs := someInputs }

/-- The same with every flag 0, at the ends of the address space: SP 0x0001, HL 0x0000, PC 0xFFFF. -/
def edge : State :=
  { before 0xFFFF 0x0001 0x00 0x00 0xFFFF 0x0000 0x0000 false [(0xFFFF, 0x3C), (0x0000, 0x80)] with inputs := someInputs }

/-- The first line of the first sample. -/
def resetLine (b : Bool) : TickIn := { TickIn.quiet with reset := b }

/-- HALT_LINE in the first sample. -/
def holdLine (b : Bool) : TickIn := { TickIn.quiet with haltLine := b }

/-- Locked, with RESET 1. -/
def lockedReset : State := { plain with inputs := [resetLine true], locked := true }

/-- Halted, with RESET 1. -/
def asleepReset : State := { edge with inputs := [resetLine true], halted := true }

/-- Another agent's write at HL. -/
def writesAtHL : TickIn := { TickIn.quiet with others := [(plain.hl, 0x55)] }

/-- At c5 of a CALL. -/
def insideCall : State := { edge with seq := ⟨.exec, 5, 0xCD, false, 0x10, 0x20⟩ }

/-- At c1 after the prefix byte. -/
def insidePrefix : State := { edge with seq := ⟨.exec, 1, 0xCB, false, 0, 0⟩ }

/-- At c4 of the service sequence. -/
def insideService : State := { edge with seq := ⟨.service, 4, 0, false, 0, 0⟩ }

/-- Locked, with HALT_LINE 1. -/
def lockedAndHeld : State :=
  { plain with inputs := [holdLine true], locked := true }

/-- Held, halted, and with an interrupt detected. -/
def heldDetected : State :=
  { plain with inputs := [holdLine true], halted := true, irqDetected := true }

/-- Halted, nothing pending. -/
def asleep : State :=
  { plain with halted := true }

/-- An interrupt detected. -/
def detected : State :=
  { plain with irqDetected := true }

/-- In the middle of LD A,n. -/
def insideLoad : State :=
  { plain with seq := ⟨.exec, 1, 0x3E, false, 0, 0⟩ }

/-- Held and halted. -/
def heldAsleep : State :=
  { plain with inputs := [holdLine true], halted := true }

/-- Halted, with an interrupt pending. -/
def waking : State :=
  { plain with halted := true, inputs := [asks 1 1] }

/-- An interrupt pending, IME 1. -/
def pendingEnabled : State :=
  { plain with inputs := [asks 1 1] }

/-- An interrupt pending, IME 0. -/
def pendingMasked : State :=
  { edge with inputs := [asks 1 1] }

/-- An interrupt detected at the ends of the address space. -/
def edgeDetected : State :=
  { edge with irqDetected := true }

/-- The halt glitch armed. -/
def glitched : State :=
  { edge with haltBug := true }

/-- EI at 0xFFFF and NOP at 0x0000, an interrupt pending. -/
def beforeEnable : State :=
  { before 0xFFFF 0xC000 0 0 0 0 0 false [(0xFFFF, 0x18)] with inputs := [asks 1 1, asks 1 1] }

/-- Another agent writes at HL before each of three ticks. -/
def disturbed : State :=
  { plain with inputs := [writesAtHL, writesAtHL, writesAtHL] }

/-- Locked, held, then another agent writes at HL before each of three ticks. -/
def lockedDisturbed : State :=
  { plain with inputs := [holdLine true, writesAtHL, writesAtHL, writesAtHL], locked := true }

theorem witness_DecodeInvertsEncode : WellFormed (.callCc .m 0xFFFF) = true ∧ WellFormed (.setM .o7) = true := by decide

theorem witness_StepRunsFetchedInstruction :
    plain.Starts ∧
      decode [plain.instrByte 0, plain.instrByte 1, plain.instrByte 2] = .ok (.incR .a, [0x00, 0x00]) := by decide

theorem witness_FetchReadsMemoryAtPC :
    plain.Undisturbed ∧ plain.haltBug = false ∧ glitched.Undisturbed ∧ glitched.haltBug = true := by decide

theorem witness_PlacedWordRunsNext :
    plain.mem.wf = true ∧ edge.mem.wf = true ∧ decodeTableWord 24 0xFFFFCD = some (.call 0xFFFF) := by decide

theorem witness_StepIsTicksToBoundary : plain.Inv ∧ insideCall.Inv ∧ insideService.Inv :=
  ⟨by decide, by decide, by decide⟩

theorem witness_TickKeepsInvariant :
    (plain.Inv ∧ (nextState (tick plain)).isSome = true) ∧
      (insidePrefix.Inv ∧ (nextState (tick insidePrefix)).isSome = true) :=
  ⟨⟨by decide, by decide⟩, by decide, by decide⟩

theorem witness_StepKeepsInvariant :
    (plain.Inv ∧ (nextState (step plain)).isSome = true) ∧
      (insideService.Inv ∧ (nextState (step insideService)).isSome = true) :=
  ⟨⟨by decide, by decide⟩, by decide, by decide⟩

theorem witness_ResetValues :
    lockedReset.seq.mode = .boundary ∧ (lockedReset.sampleAt 0).reset = true := by decide

theorem witness_ResetStateIsTheResetTicksResult :
    asleepReset.seq.mode = .boundary ∧ (asleepReset.sampleAt 0).reset = true := by decide

theorem witness_EveryTickIsOneBusCycle :
    (nextState (tick plain)).isSome = true ∧ (nextState (tick { plain with locked := true })).isSome = true ∧
      (nextState (tick { plain with halted := true })).isSome = true := by decide

theorem witness_StepFromBoundaryCompletes : plain.seq.mode = .boundary ∧ edge.seq.mode = .boundary := by decide

theorem witness_ResetAndHoldIgnoredInsideSequences :
    insideLoad.seq.mode ≠ .boundary ∧ insideService.seq.mode ≠ .boundary := by decide

/-- One state for each clause, in the statement's order. -/
theorem witness_TickCasesInOrder :
    (lockedReset.seq.mode = .boundary ∧ (lockedReset.sampleAt 0).reset = true) ∧
    (lockedAndHeld.seq.mode = .boundary ∧ (lockedAndHeld.sampleAt 0).reset = false ∧ lockedAndHeld.locked = true) ∧
    (heldDetected.seq.mode = .boundary ∧ (heldDetected.sampleAt 0).reset = false ∧ heldDetected.locked = false ∧ (heldDetected.sampleAt 0).haltLine = true) ∧
    (asleep.seq.mode = .boundary ∧ (asleep.sampleAt 0).reset = false ∧ asleep.locked = false ∧ (asleep.sampleAt 0).haltLine = false ∧
        asleep.halted = true) ∧
    (detected.seq.mode = .boundary ∧ (detected.sampleAt 0).reset = false ∧ detected.locked = false ∧ (detected.sampleAt 0).haltLine = false ∧
        detected.halted = false ∧ detected.irqDetected = true) ∧
    plain.Starts ∧
    (insideLoad.seq.mode ≠ .boundary ∧ insideLoad.locked = false) := by decide

/-- No tick, and five of them: a held one, three in which another agent writes, a quiet one. -/
theorem witness_LockedCoreIdlesUntilReset :
    lockedDisturbed.locked = true ∧ lockedDisturbed.seq.mode = .boundary ∧
      (∀ k, k < 0 → (lockedDisturbed.sampleAt k).reset = false) ∧
      (∀ k, k < 5 → (lockedDisturbed.sampleAt k).reset = false) := by decide

theorem witness_HeldAndHaltedTicks :
    (heldAsleep.seq.mode = .boundary ∧ (heldAsleep.sampleAt 0).reset = false ∧ heldAsleep.locked = false ∧ (heldAsleep.sampleAt 0).haltLine = true) ∧
    (asleep.seq.mode = .boundary ∧ (asleep.sampleAt 0).reset = false ∧ asleep.locked = false ∧ (asleep.sampleAt 0).haltLine = false ∧
        asleep.halted = true ∧ (asleep.sampleAt 0).irqPending = false) ∧
    (waking.seq.mode = .boundary ∧ (waking.sampleAt 0).reset = false ∧ waking.locked = false ∧ (waking.sampleAt 0).haltLine = false ∧
        waking.halted = true ∧ (waking.sampleAt 0).irqPending = true) := by decide

theorem witness_ServiceSequenceTakesInterrupt :
    edgeDetected.seq.mode = .boundary ∧ (edgeDetected.sampleAt 0).reset = false ∧ edgeDetected.locked = false ∧ (edgeDetected.sampleAt 0).haltLine = false ∧
      edgeDetected.halted = false ∧ edgeDetected.irqDetected = true ∧ edgeDetected.Undisturbed ∧ edgeDetected.mem.wf = true := by decide

/-- The lowest source, the highest, and none. -/
theorem witness_LowestSourceWins :
    (asks 0xFF 0xFF).selected = some 0 ∧ (asks 0x80 0xFF).selected = some 7 ∧
      (asks 0x0F 0xF0).ie &&& (asks 0x0F 0xF0).irqFlags = 0 := by decide

/-- Nothing pending; pending with IME 1; pending with IME 0. -/
theorem witness_HaltEntersOrGlitches :
    (plain.Undisturbed ∧ plain.locked = false ∧ plain.eiPending = false ∧ (plain.sampleAt 0).irqPending = false) ∧
    (pendingEnabled.Undisturbed ∧ pendingEnabled.locked = false ∧ pendingEnabled.eiPending = false ∧ (pendingEnabled.sampleAt 0).irqPending = true ∧ pendingEnabled.ime = true) ∧
    (pendingMasked.Undisturbed ∧ pendingMasked.locked = false ∧ pendingMasked.eiPending = false ∧ (pendingMasked.sampleAt 0).irqPending = true ∧ pendingMasked.ime = false) := by decide

theorem witness_HaltGlitchRunsNextInstructionTwice :
    glitched.Starts ∧ glitched.Undisturbed ∧ glitched.haltBug = true ∧ glitched.ime = false ∧ (glitched.sampleAt 1).reset = false ∧
      (glitched.sampleAt 1).haltLine = false ∧ [glitched.mem.read glitched.pc] = encode (.incR .a) := by decide

theorem witness_EnableTakesEffectAfterNextInstruction :
    beforeEnable.Starts ∧ beforeEnable.Undisturbed ∧ beforeEnable.haltBug = false ∧ beforeEnable.ime = false ∧
      (beforeEnable.sampleAt 1).reset = false ∧ (beforeEnable.sampleAt 1).haltLine = false ∧
      (beforeEnable.sampleAt 2).reset = false ∧ (beforeEnable.sampleAt 2).haltLine = false ∧
      (beforeEnable.sampleAt 0).irqPending = true ∧ (beforeEnable.sampleAt 1).irqPending = true ∧
      beforeEnable.mem.read beforeEnable.pc = 0x18#8 ∧ beforeEnable.mem.read (beforeEnable.pc + 1#16) = 0x00#8 := by decide

theorem witness_EnableDisableInterrupts : plain.Undisturbed ∧ edge.Undisturbed := by decide

theorem witness_CycleKindsAndCounts :
    WellFormed (.retCc .nz) = true ∧ condHolds .nz plain.flags = false ∧ condHolds .nz edge.flags = true := by decide

theorem witness_FlagsWrittenAreTheTables :
    (nextState (exec (.addHlPp .hl) plain)).isSome = true ∧ (flagsWritten (.addHlPp .hl)).sf = false ∧
      (flagsWritten (.addHlPp .hl)).zf = false ∧ (flagsWritten (.addHlPp .hl)).vf = false ∧
      (nextState (exec .incM plain)).isSome = true ∧ (flagsWritten .incM).cf = false ∧
      (nextState (exec .scf plain)).isSome = true ∧ (flagsWritten .scf).hf = false := by decide

theorem witness_ControlStateWrittenByFewInstructions :
    (nextState (exec .nop plain)).isSome = true ∧ plain.eiPending = false ∧ (Instr.nop ≠ .ei ∧ Instr.nop ≠ .di ∧ Instr.nop ≠ .reti) ∧
      Instr.nop ≠ .halt ∧ (Instr.nop ≠ .undLockDD ∧ Instr.nop ≠ .undLockED ∧ Instr.nop ≠ .undLockFD) := by decide

theorem witness_OtherAgentsBetweenTicks :
    disturbed.inputs = writesAtHL :: writesAtHL :: writesAtHL :: [] ∧ disturbed.mem.wf = true ∧ writesAtHL.others = [(disturbed.hl, 0x55)] := by decide

theorem witness_PairViewsAreTheHalves : Reg.b ≠ Reg.a ∧ Pair.sp ≠ Pair.bc := by decide

/-- The ends of each index range. -/
theorem witness_ShiftsMoveOneBit : 0 < 7 ∧ 6 < 7 ∧ 0 < 4 ∧ 3 < 4 := by decide

theorem witness_LoadRegister : plain.Undisturbed ∧ edge.Undisturbed ∧ Reg.b ≠ Reg.a := by decide

theorem witness_LoadFromMemory : plain.Undisturbed ∧ edge.Undisturbed := by decide

theorem witness_StoreToMemory :
    plain.Undisturbed ∧ plain.mem.wf = true ∧ edge.Undisturbed ∧ edge.mem.wf = true := by decide

theorem witness_AluOnRegisterMemoryImmediate : plain.Undisturbed ∧ edge.Undisturbed := by decide

theorem witness_IncrementDecrementByte :
    plain.Undisturbed ∧ plain.mem.wf = true ∧ edge.Undisturbed ∧ edge.mem.wf = true := by decide

theorem witness_ComplementCarryAndFlagByte : plain.Undisturbed ∧ edge.Undisturbed := by decide

theorem witness_LoadPairAndStackPointer : plain.Undisturbed ∧ edge.Undisturbed := by decide

theorem witness_PushAndPopPairs :
    plain.Undisturbed ∧ plain.mem.wf = true ∧ edge.Undisturbed ∧ edge.mem.wf = true ∧ PairQ.bc ≠ PairQ.hl := by decide

theorem witness_PopUndoesPush :
    plain.Undisturbed ∧ plain.mem.wf = true ∧ edge.Undisturbed ∧ edge.mem.wf = true := by decide

theorem witness_PairArithmetic : plain.Undisturbed ∧ edge.Undisturbed ∧ Pair.sp ≠ Pair.hl := by decide

/-- Both branches of a condition. -/
theorem witness_Jumps :
    plain.Undisturbed ∧ condHolds .z plain.flags = true ∧ edge.Undisturbed ∧ condHolds .z edge.flags = false := by decide

/-- Both branches of a condition. -/
theorem witness_Calls :
    plain.Undisturbed ∧ plain.mem.wf = true ∧ condHolds .m plain.flags = true ∧
      edge.Undisturbed ∧ edge.mem.wf = true ∧ condHolds .m edge.flags = false := by decide

/-- Both branches of a condition. -/
theorem witness_Returns :
    plain.Undisturbed ∧ condHolds .c plain.flags = true ∧ edge.Undisturbed ∧ condHolds .c edge.flags = false := by decide

theorem witness_ReturnFromTrapResumes :
    plain.Undisturbed ∧ plain.mem.wf = true ∧ edge.Undisturbed ∧ edge.mem.wf = true := by decide

theorem witness_SoftwareTraps :
    plain.Undisturbed ∧ plain.mem.wf = true ∧ edge.Undisturbed ∧ edge.mem.wf = true := by decide

theorem witness_NopAndAliases :
    Instr.undAliasEB ∈ [Instr.nop, .undAliasD3, .undAliasDB, .undAliasE3, .undAliasEB] ∧ plain.Undisturbed := by decide

theorem witness_LockOpcodesFreeze :
    Instr.undLockFD ∈ [Instr.undLockDD, .undLockED, .undLockFD] ∧ edge.Undisturbed := by decide

theorem witness_RotateAndShift :
    plain.Undisturbed ∧ plain.mem.wf = true ∧ edge.Undisturbed ∧ edge.mem.wf = true := by decide

theorem witness_TestBit : plain.Undisturbed ∧ edge.Undisturbed := by decide

theorem witness_ClearAndSetBit :
    plain.Undisturbed ∧ plain.mem.wf = true ∧ edge.Undisturbed ∧ edge.mem.wf = true := by decide

theorem witness_MemoryReadsLastWrite :
    plain.mem.wf = true ∧ (0xFFFF#16 : Word) ≠ 0x0000#16 ∧
      ((plain.mem.write 0x2000 0x11).write 0x2000 0x00).wf = true := by decide

/-- Two memories that read alike everywhere, one of them written to and back. -/
theorem witness_MemoryReadsLastWrite_alike :
    plain.mem.filler = ((plain.mem.write 0x2000 0x11).write 0x2000 0x00).filler ∧
      ∀ a, plain.mem.read a = ((plain.mem.write 0x2000 0x11).write 0x2000 0x00).read a := by
  rw [show (plain.mem.write 0x2000 0x11).write 0x2000 0x00 = plain.mem by decide]
  exact ⟨rfl, fun _ => rfl⟩

end Sys2Proof.Tests
end

section
/-! What the actions of every row's cycles can write (10_state.md R45, R49, R55 to R57): the facts on rows and tables
that the invariant and the frame statements share. -/

namespace Sys2Proof.Machine

/-! ### What a row may write -/

/-- The control items an instruction's actions may write: IME (R49), `halted` and `halt_bug` (R55, R57), `locked`
(R56), and `ei_pending`. -/
structure ControlWrites where
  ime : Bool
  halt : Bool
  lock : Bool
  enable : Bool

/-- No control item is written. -/
def ControlWrites.nothing : ControlWrites := ⟨false, false, false, false⟩

/-- The control items written by each row, as `flagsWritten` is for the flags. -/
def controlWritten : Instr → ControlWrites
  | .ei => ⟨false, false, false, true⟩
  | .di => ⟨true, false, false, true⟩
  | .reti => ⟨true, false, false, false⟩
  | .halt => ⟨false, true, false, false⟩
  | .undLockDD | .undLockED | .undLockFD => ⟨false, false, true, false⟩
  | _ => .nothing

theorem controlWritten_ime_enable {i : Instr} (hei : i ≠ .ei) (hdi : i ≠ .di) (hreti : i ≠ .reti) :
    (controlWritten i).ime = false ∧ (controlWritten i).enable = false := by
  cases i with
  | ei | di | reti => contradiction
  | _ => exact ⟨rfl, rfl⟩

theorem controlWritten_halt {i : Instr} (h : i ≠ .halt) : (controlWritten i).halt = false := by
  cases i with
  | halt => contradiction
  | _ => rfl

theorem controlWritten_lock {i : Instr} (hDD : i ≠ .undLockDD) (hED : i ≠ .undLockED) (hFD : i ≠ .undLockFD) :
    (controlWritten i).lock = false := by
  cases i with
  | undLockDD | undLockED | undLockFD => contradiction
  | _ => rfl

/-- Every flag may be written. -/
def Flags.all : Flags := ⟨true, true, true, true, true⟩

/-- The flags for which `written` has a dash are the same in `new` as in `old` (10_state.md R45). -/
def FlagsKept (written old new : Flags) : Prop :=
  (written.sf = false → new.sf = old.sf) ∧ (written.zf = false → new.zf = old.zf) ∧
  (written.hf = false → new.hf = old.hf) ∧ (written.vf = false → new.vf = old.vf) ∧
  (written.cf = false → new.cf = old.cf)

@[simp] theorem FlagsKept.same (w f : Flags) : FlagsKept w f f :=
  ⟨fun _ => rfl, fun _ => rfl, fun _ => rfl, fun _ => rfl, fun _ => rfl⟩

@[simp] theorem FlagsKept.all (f g : Flags) : FlagsKept .all f g := by simp [FlagsKept, Flags.all]

theorem FlagsKept.trans {w f g h : Flags} (hfg : FlagsKept w f g) (hgh : FlagsKept w g h) : FlagsKept w f h :=
  ⟨fun k => (hgh.1 k).trans (hfg.1 k), fun k => (hgh.2.1 k).trans (hfg.2.1 k),
    fun k => (hgh.2.2.1 k).trans (hfg.2.2.1 k), fun k => (hgh.2.2.2.1 k).trans (hfg.2.2.2.1 k),
    fun k => (hgh.2.2.2.2 k).trans (hfg.2.2.2.2 k)⟩

/-- Flags that are all kept are the same flags. -/
theorem FlagsKept.eq_of_dashes {f g : Flags} (h : FlagsKept ⟨false, false, false, false, false⟩ f g) : g = f := by
  obtain ⟨sf, zf, hf, vf, cf⟩ := h
  cases f; cases g
  simp only [Flags.mk.injEq]
  exact ⟨sf rfl, zf rfl, hf rfl, vf rfl, cf rfl⟩

/-- From `s` to `t` the sequencer's position, the detection bit, and every control item and flag not given by `w` and
`f` are kept. -/
structure ControlFrame (w : ControlWrites) (f : Flags) (s t : State) : Prop where
  mode : t.seq.mode = s.seq.mode
  step : t.seq.step = s.seq.step
  irqDetected : t.irqDetected = s.irqDetected
  ime : w.ime = false → t.ime = s.ime
  halted : w.halt = false → t.halted = s.halted
  locked : w.lock = false → t.locked = s.locked
  eiPending : w.enable = false → t.eiPending = s.eiPending
  flags : FlagsKept f s.flags t.flags

/-- What the actions of a cycle keep: memory and `halt_bug` too, which a bus operation can change. -/
structure ActionFrame (w : ControlWrites) (f : Flags) (s t : State) : Prop extends ControlFrame w f s t where
  mem : t.mem = s.mem
  haltBug : w.halt = false → t.haltBug = s.haltBug

theorem actionFrame_iff {w : ControlWrites} {f : Flags} {s t : State} : ActionFrame w f s t ↔
    (t.seq.mode = s.seq.mode ∧ t.seq.step = s.seq.step ∧ t.irqDetected = s.irqDetected ∧ t.mem = s.mem) ∧
    ((w.ime = false → t.ime = s.ime) ∧ (w.halt = false → t.halted = s.halted) ∧
      (w.halt = false → t.haltBug = s.haltBug) ∧ (w.lock = false → t.locked = s.locked) ∧
      (w.enable = false → t.eiPending = s.eiPending)) ∧
    FlagsKept f s.flags t.flags :=
  ⟨fun h => ⟨⟨h.mode, h.step, h.irqDetected, h.mem⟩, ⟨h.ime, h.halted, h.haltBug, h.locked, h.eiPending⟩, h.flags⟩,
    fun ⟨⟨mode, step, irq, mem⟩, ⟨ime, halted, bug, locked, ei⟩, flags⟩ =>
      ⟨⟨mode, step, irq, ime, halted, locked, ei, flags⟩, mem, bug⟩⟩

@[simp] theorem ActionFrame.same (w : ControlWrites) (f : Flags) (s : State) : ActionFrame w f s s := by
  simp [actionFrame_iff]

/-- The actions of the cycle keep what `w` and `f` do not give them, and those of an opcode fetch keep `pfx`, which
only c1 sets (40_sequencer.md R171). -/
def Cycle.Within (w : ControlWrites) (f : Flags) (c : Cycle) : Prop :=
  ∀ (inp : TickIn) (b : Byte) (s : State), ActionFrame w f s (c.act inp b s) ∧
    (c.op = .opcode → (c.act inp b s).seq.pfx = s.seq.pfx)

/-- Every cycle of the table keeps what `w` and `f` do not give it. -/
def TableWithin (w : ControlWrites) (f : Flags) (table : List Cycle) : Prop := ∀ c ∈ table, c.Within w f

/-- What does not mention the sample holds for all samples as soon as it holds: there is one. -/
theorem forall_tickIn {p : Prop} : (TickIn → p) ↔ p := ⟨fun h => h .quiet, fun h _ => h⟩

section
variable {w : ControlWrites} {f : Flags}

@[simp] theorem tableWithin_nil : TableWithin w f [] := by simp [TableWithin]

@[simp] theorem tableWithin_cons {c : Cycle} {rest : List Cycle} :
    TableWithin w f (c :: rest) ↔ c.Within w f ∧ TableWithin w f rest := by simp [TableWithin]

/-! ### The cycles the tables are written with -/

@[simp] theorem cOpcodeSampled_within {act : TickIn → State → State} : (cOpcodeSampled act).Within w f ↔
    ∀ inp s, ActionFrame w f s (act inp s) ∧ (act inp s).seq.pfx = s.seq.pfx := by
  simp [Cycle.Within, cOpcodeSampled]

@[simp] theorem cOpcode_within {act : State → State} : (cOpcode act).Within w f ↔
    ∀ s, ActionFrame w f s (act s) ∧ (act s).seq.pfx = s.seq.pfx := by
  simp [cOpcode, forall_tickIn]

@[simp] theorem c0_within : c0.Within w f := by simp [c0]

@[simp] theorem cFetch_within {act : Byte → State → State} : (cFetch act).Within w f ↔
    ∀ b s, ActionFrame w f s (act b s) := by
  simp [Cycle.Within, cFetch, forall_tickIn]

@[simp] theorem cPop_within {act : Byte → State → State} : (cPop act).Within w f ↔
    ∀ b s, ActionFrame w f s (act b s) := by
  simp [Cycle.Within, cPop, forall_tickIn]

@[simp] theorem cRead_within {addr : State → Word} {act : Byte → State → State} : (cRead addr act).Within w f ↔
    ∀ b s, ActionFrame w f s (act b s) := by
  simp [Cycle.Within, cRead, forall_tickIn]

@[simp] theorem cPush_within {v : State → Byte} {act : State → State} : (cPush v act).Within w f ↔
    ∀ s, ActionFrame w f s (act s) := by
  simp [Cycle.Within, cPush, forall_tickIn]

@[simp] theorem cWrite_within {addr : State → Word} {v : State → Byte} {act : State → State} :
    (cWrite addr v act).Within w f ↔ ∀ s, ActionFrame w f s (act s) := by
  simp [Cycle.Within, cWrite, forall_tickIn]

@[simp] theorem cIdle_within {act : State → State} : (cIdle act).Within w f ↔
    ∀ s, ActionFrame w f s (act s) := by
  simp [Cycle.Within, cIdle, forall_tickIn]

@[simp] theorem cPrefixed_within {act : State → State} : (cPrefixed act).Within w f ↔
    ∀ b s, ActionFrame w f s (act (s.latchPrefixed b)) := by
  simp [cPrefixed]

@[simp] theorem Cycle.ifTaken_within {c : Cycle} {cc : Cond} : (c.ifTaken cc).Within w f ↔ c.Within w f := Iff.rfl

@[simp] theorem cFetchZ_within : cFetchZ.Within w f := by simp [cFetchZ, actionFrame_iff]
@[simp] theorem cFetchW_within : cFetchW.Within w f := by simp [cFetchW, actionFrame_iff]
@[simp] theorem cPopZ_within : cPopZ.Within w f := by simp [cPopZ, actionFrame_iff]
@[simp] theorem cPopW_within : cPopW.Within w f := by simp [cPopW, actionFrame_iff]
@[simp] theorem cIndex_within : cIndex.Within w f := by simp [cIndex, actionFrame_iff]
@[simp] theorem cSelect_within : cSelect.Within w f := by simp [Cycle.Within, cSelect, actionFrame_iff]

/-! ### The shared cycle tables -/

theorem aluRegister_within (op : AluOp) (r : Reg) : TableWithin w .all (aluRegister op r) := by
  simp [aluRegister, actionFrame_iff]

theorem aluMemory_within (op : AluOp) : TableWithin w .all (aluMemory op) := by
  simp [aluMemory, actionFrame_iff]

theorem aluImmediate_within (op : AluOp) : TableWithin w .all (aluImmediate op) := by
  simp [aluImmediate, actionFrame_iff]

/-- A register operation writes the flags that its function on bytes writes. -/
theorem stepRegister_within {op : Byte → Flags → Byte × Flags} (h : ∀ v g, FlagsKept f g (op v g).2) (r : Reg) :
    TableWithin w f (stepRegister op r) := by
  simp [stepRegister, actionFrame_iff, h]

/-- A read-modify-write writes the flags that its function on bytes writes. -/
theorem modifyHL_within {op : Byte → Flags → Byte × Flags} (h : ∀ v g, FlagsKept f g (op v g).2) :
    TableWithin w f (modifyHL op) := by
  simp [modifyHL, actionFrame_iff, h]

theorem prefixedRegister_within {op : Byte → Flags → Byte × Flags} (h : ∀ v g, FlagsKept f g (op v g).2) (r : Reg) :
    TableWithin w f (prefixedRegister op r) := by
  simp [prefixedRegister, actionFrame_iff, h]

theorem prefixedMemory_within {op : Byte → Flags → Byte × Flags} (h : ∀ v g, FlagsKept f g (op v g).2) :
    TableWithin w f (prefixedMemory op) := by
  simp [prefixedMemory, actionFrame_iff, modifyHL_within h]

theorem loadIndirect_within {p : Pair} {act : Byte → State → State} (h : ∀ b s, ActionFrame w f s (act b s)) :
    TableWithin w f (loadIndirect p act) := by
  simp [loadIndirect, h]

theorem storeIndirect_within (p : Pair) (v : State → Byte) : TableWithin w f (storeIndirect p v) := by
  simp [storeIndirect]

@[simp] theorem pushReturn_within (target : State → Word) : TableWithin w f (pushReturn target) := by
  simp [pushReturn, actionFrame_iff]

@[simp] theorem trapCycles_within (vec : Word) : TableWithin w f (trapCycles vec) := by
  simp [trapCycles]

theorem returnCycles_within {act : State → State} (h : ∀ s v, ActionFrame w f s (act (s.setPC v))) :
    TableWithin w f (returnCycles act) := by
  simp [returnCycles, h]

/-- BIT writes ZF alone (47_prefixed.md R369). -/
theorem bitFlags_kept (b : Oct) (v : Byte) (g : Flags) :
    FlagsKept ⟨false, true, false, false, false⟩ g (bitFlags b v g) := by
  simp [FlagsKept, bitFlags]

/-- INC of a byte keeps CF (42_alu8.md R242). -/
theorem inc8_kept (v : Byte) (g : Flags) : FlagsKept ⟨true, true, true, true, false⟩ g (inc8 v g).2 := by
  simp [FlagsKept, inc8]

/-- DEC of a byte keeps CF (42_alu8.md R244). -/
theorem dec8_kept (v : Byte) (g : Flags) : FlagsKept ⟨true, true, true, true, false⟩ g (dec8 v g).2 := by
  simp [FlagsKept, dec8]

/-- ADD HL,pp writes HF and CF alone (44_arith16.md R292). -/
theorem add16_kept (a b : Word) (g : Flags) : FlagsKept ⟨false, false, true, false, true⟩ g (add16 a b g).2 := by
  simp [FlagsKept, add16]

/-- The service sequence writes no flag and no control item (60_exceptions.md R420). -/
theorem serviceCycles_within : TableWithin w f serviceCycles := by
  simp [serviceCycles]

end

/-! ### Every row -/

/-- The actions of every row keep each control item and flag that the row is not given, the position in the sequence,
the detection bit and memory (10_state.md R45, R49, R55 to R57). -/
theorem cyclesOf_within (i : Instr) : TableWithin (controlWritten i) (flagsWritten i) (cyclesOf i) := by
  cases i with
  | nop | undAliasD3 | undAliasDB | undAliasE3 | undAliasEB =>
    show TableWithin _ _ [c0]; simp
  | addAR r | adcAR r | subAR r | sbcAR r | andAR r | xorAR r | orAR r | cpAR r => exact aluRegister_within _ r
  | addAM | adcAM | subAM | sbcAM | andAM | xorAM | orAM | cpAM => exact aluMemory_within _
  | addAN n | adcAN n | subAN n | sbcAN n | andAN n | xorAN n | orAN n | cpAN n => exact aluImmediate_within _
  | incR r => exact stepRegister_within inc8_kept r
  | decR r => exact stepRegister_within dec8_kept r
  | incM => exact tableWithin_cons.2 ⟨c0_within, modifyHL_within inc8_kept⟩
  | decM => exact tableWithin_cons.2 ⟨c0_within, modifyHL_within dec8_kept⟩
  | rlcR r | rrcR r | rlR r | rrR r | slaR r | sraR r | swapR r | srlR r =>
    exact prefixedRegister_within (fun _ _ => FlagsKept.all _ _) r
  | rlcM | rrcM | rlM | rrM | slaM | sraM | swapM | srlM =>
    exact prefixedMemory_within (fun _ _ => FlagsKept.all _ _)
  | resR b r | setR b r => exact prefixedRegister_within (fun _ _ => FlagsKept.same _ _) r
  | resM b | setM b => exact prefixedMemory_within (fun _ _ => FlagsKept.same _ _)
  | bitR b r =>
    show TableWithin _ _ (bitRegister b r)
    simp [bitRegister, actionFrame_iff, flagsWritten, bitFlags_kept]
  | bitM b =>
    show TableWithin _ _ (bitMemory b)
    simp [bitMemory, actionFrame_iff, flagsWritten, bitFlags_kept]
  | prefixByte =>
    show TableWithin _ _ [c0, cPrefixed id]
    simp [actionFrame_iff]
  | ldRM | ldABc | ldADe => exact loadIndirect_within (by simp [actionFrame_iff])
  | ldMR | ldBcA | ldDeA => exact storeIndirect_within _ _
  | swi | undTrap t => exact tableWithin_cons.2 ⟨c0_within, trapCycles_within _⟩
  | ret => exact tableWithin_cons.2 ⟨c0_within, returnCycles_within (by simp [actionFrame_iff])⟩
  | reti =>
    exact tableWithin_cons.2 ⟨c0_within, returnCycles_within (by simp [actionFrame_iff, controlWritten])⟩
  | retCc cc =>
    show TableWithin _ _ (c0 :: (cIdle id).ifTaken cc :: returnCycles id)
    simp [returnCycles_within, actionFrame_iff]
  | jr | jrCc | jp | jpCc | jpHl | call | callCc =>
    simp [cyclesOf, cyclesJr, cyclesJrCc, cyclesJp, cyclesJpCc, cyclesJpHl, cyclesCall, cyclesCallCc, actionFrame_iff]
  | ldRR | ldRN | ldMN | ldANn | ldNnA | ldAHld | ldHldA =>
    simp [cyclesOf, cyclesLdRR, cyclesLdRN, cyclesLdMN, cyclesLdANn, cyclesLdNnA, cyclesLdAHld, cyclesLdHldA,
      actionFrame_iff]
  | ldPpNn | ldSpHl | pushQq | pushAf | popQq =>
    simp [cyclesOf, cyclesLdPpNn, cyclesLdSpHl, cyclesPushQq, cyclesPushAf, cyclesPopQq, actionFrame_iff]
  | incPp | decPp | addHlPp =>
    simp [cyclesOf, cyclesIncPp, cyclesDecPp, cyclesAddHlPp, actionFrame_iff, flagsWritten, add16_kept]
  | scf | ccf => simp [cyclesOf, cyclesScf, cyclesCcf, actionFrame_iff, flagsWritten, FlagsKept]
  | popAf | ldFA => simp [cyclesOf, cyclesPopAf, cyclesLdFA, actionFrame_iff, flagsWritten, FlagsKept]
  | cpl | ldAF => simp [cyclesOf, cyclesCpl, cyclesLdAF, actionFrame_iff]
  | ei | di | undLockDD | undLockED | undLockFD =>
    simp [cyclesOf, cyclesEi, cyclesDi, cyclesUndLockDD, cyclesUndLockED, cyclesUndLockFD, actionFrame_iff,
      controlWritten]
  | halt => simp [cyclesOf, cyclesHalt, actionFrame_iff, controlWritten, State.haltEntry_spec]

/-- Every row begins with its opcode fetch, c0 (40_sequencer.md R170). -/
theorem cyclesOf_head (i : Instr) : ∃ c rest, cyclesOf i = c :: rest ∧ c.op = .opcode := by
  cases i <;> exact ⟨_, _, rfl, rfl⟩

/-- No instruction has more than six cycles (40_sequencer.md R190). -/
theorem cyclesOf_length_le (i : Instr) : (cyclesOf i).length ≤ 6 := by
  cases i <;> exact Nat.le_of_ble_eq_true rfl

/-- A row that writes `halted`, `locked` or `ei_pending` has one cycle only, so it completes at once. -/
theorem cyclesOf_singleton_or (i : Instr) : (cyclesOf i).length = 1 ∨
    (controlWritten i).halt = false ∧ (controlWritten i).lock = false ∧ (controlWritten i).enable = false := by
  cases i with
  | ei | di | halt | undLockDD | undLockED | undLockFD => exact .inl rfl
  | _ => exact .inr ⟨rfl, rfl, rfl⟩

end Sys2Proof.Machine
end

section
/-! The invariant of 10_state.md R59 through one tick and one step: what a bus operation and a cycle do to the control
items, what completion leaves, and the sequences in progress. -/

namespace Sys2Proof.Machine

/-! ### One cycle -/

section
variable (g : Option Byte) (s : State) (c : Cycle)

theorem BusOp.perform_controlFrame (w : ControlWrites) (f : Flags) (inp : TickIn) (op : BusOp) :
    ControlFrame w f s (op.perform inp g s).1 := by
  obtain ⟨-, flags, ime, halted, locked, ei, irq, -, -, mode, step, -⟩ := BusOp.perform_spec inp g s op
  exact ⟨mode, step, irq, fun _ => ime, fun _ => halted, fun _ => locked, fun _ => ei, by simp [flags]⟩

/-- c0 leaves `halt_bug` 0 (40_sequencer.md R170). -/
theorem BusOp.perform_haltBug_opcode {op : BusOp} (h : op = .opcode) (inp : TickIn) :
    (op.perform inp g s).1.haltBug = false := by subst h; rfl

/-- No bus operation sets `halt_bug` (10_state.md R57). -/
theorem BusOp.perform_haltBug_of_false (h : s.haltBug = false) (inp : TickIn) (op : BusOp) :
    (op.perform inp g s).1.haltBug = false := by
  cases op with
  | opcode => rfl
  | _ => exact h

theorem ControlFrame.trans {w : ControlWrites} {f : Flags} {s t u : State} (h : ControlFrame w f s t)
    (k : ControlFrame w f t u) : ControlFrame w f s u :=
  ⟨k.mode.trans h.mode, k.step.trans h.step, k.irqDetected.trans h.irqDetected, fun e => (k.ime e).trans (h.ime e),
    fun e => (k.halted e).trans (h.halted e), fun e => (k.locked e).trans (h.locked e),
    fun e => (k.eiPending e).trans (h.eiPending e), h.flags.trans k.flags⟩

variable {g s c} {w : ControlWrites} {f : Flags}

/-- What other agents write before the tick is in memory alone (20_memory.md R94). -/
theorem State.beginTick_controlFrame : ControlFrame w f s s.beginTick :=
  ⟨rfl, rfl, rfl, fun _ => rfl, fun _ => rfl, fun _ => rfl, fun _ => rfl, FlagsKept.same _ _⟩

theorem Cycle.Within.run_frame (h : c.Within w f) : ControlFrame w f s (c.run g s) :=
  (State.beginTick_controlFrame.trans (BusOp.perform_controlFrame g s.beginTick w f s.input c.op)).trans
    (h s.input _ _).1.toControlFrame

theorem Cycle.Within.run_wf (h : c.Within w f) (hm : s.mem.wf = true) : (c.run g s).mem.wf = true := by
  obtain ⟨-, -, -, -, -, -, -, -, -, -, -, -, -, -, -, wf⟩ := BusOp.perform_spec s.input g s.beginTick c.op
  have hact : (c.run g s).mem = (c.op.perform s.input g s.beginTick).1.mem := (h _ _ _).1.mem
  rw [hact]
  exact wf (Memory.wf_writeAll hm _)

theorem Cycle.Within.run_haltBug_opcode (h : c.Within w f) (hw : w.halt = false) (hc : c.op = .opcode) :
    (c.run g s).haltBug = false :=
  ((h _ _ _).1.haltBug hw).trans (BusOp.perform_haltBug_opcode g _ hc _)

theorem Cycle.Within.run_haltBug_of_false (h : c.Within w f) (hw : w.halt = false) (hs : s.haltBug = false) :
    (c.run g s).haltBug = false :=
  ((h _ _ _).1.haltBug hw).trans (BusOp.perform_haltBug_of_false g s.beginTick hs _ _)

/-- c0 leaves `pfx` as the start of the instruction set it (40_sequencer.md R169, R171). -/
theorem Cycle.Within.run_pfx (h : c.Within w f) (hc : c.op = .opcode) : (c.run g s).seq.pfx = s.seq.pfx := by
  obtain ⟨-, -, -, -, -, -, -, -, -, -, -, pfx, -⟩ := BusOp.perform_spec s.input g s.beginTick c.op
  exact ((h _ _ _).2 hc).trans pfx

/-! ### Completion -/

/-- What a cycle that completes its sequence must have left: an enable waits only where the poll point clears it, and
a core that has just halted has neither the halt glitch nor a pending interrupt (46_system.md R331). -/
structure State.Completable (s : State) (inp : TickIn) : Prop where
  wf : s.mem.wf = true
  irqDetected : s.irqDetected = false
  eiPending : s.eiPending = true → s.seq.mode = .exec ∧ s.locked = false
  halted : s.halted = true → s.locked = false ∧ s.haltBug = false ∧ inp.irqPending = false

/-- Completion and the poll point make the invariant hold at the boundary (40_sequencer.md R175, R176). -/
theorem State.Completable.complete_inv {s : State} {inp : TickIn} (h : s.Completable inp) : (s.complete inp).Inv := by
  have rest_boundary : Sequencer.rest.mode = .boundary := rfl
  refine ⟨⟨?_, ?_, ?_, ?_, ?_, ?_, ?_⟩, ?_, ?_⟩
  · simp
  · simp [rest_boundary]
  · intro hh
    obtain ⟨locked, haltBug, pending⟩ := h.halted (by simpa using hh)
    simp [rest_boundary, locked, haltBug, pending, h.irqDetected]
  · simp [rest_boundary]
  · simp [rest_boundary]
  · simp [rest_boundary]
  · cases he : s.eiPending with
    | false => simp [he]
    | true => simp [h.eiPending he]
  · simp [State.PrefixSeen, rest_boundary]
  · simpa using h.wf

/-! ### A sequence in progress -/

/-- R59 between two cycles of a sequence, without the bounds on its cycle index: nothing is halted, locked, detected
or waiting, and in the service sequence IME is 0 (10_state.md R59 (b) to (e), (g)). -/
structure State.Running (s : State) : Prop where
  halted : s.halted = false
  locked : s.locked = false
  irqDetected : s.irqDetected = false
  eiPending : s.eiPending = false
  ime : s.seq.mode = .service → s.ime = false
  wf : s.mem.wf = true

/-- `table` is what is left of the sequence in progress: the end of a row's table or of the service sequence's. -/
def State.Sequence (s : State) (table : List Cycle) : Prop :=
  (s.seq.mode = .exec ∧ ∃ i, table <:+ cyclesOf i) ∨ (s.seq.mode = .service ∧ table <:+ serviceCycles)

theorem State.sequence_remaining (h : s.seq.mode ≠ .boundary) : s.Sequence s.remaining := by
  simp only [State.Sequence, State.remaining]
  cases hm : s.seq.mode with
  | boundary => exact absurd hm h
  | exec => exact .inl ⟨rfl, _, List.drop_suffix _ _⟩
  | service => exact .inr ⟨rfl, List.drop_suffix _ _⟩

/-- A cycle that writes no control item but IME, and not even IME in the service sequence, keeps a sequence running. -/
theorem State.Running.run (hs : s.Running) (hc : c.Within w f) (hhalt : w.halt = false) (hlock : w.lock = false)
    (hen : w.enable = false) (hime : s.seq.mode = .service → w.ime = false) : (c.run g s).Running :=
  have frame : ControlFrame w f s (c.run g s) := hc.run_frame
  { halted := (frame.halted hhalt).trans hs.halted
    locked := (frame.locked hlock).trans hs.locked
    irqDetected := frame.irqDetected.trans hs.irqDetected
    eiPending := (frame.eiPending hen).trans hs.eiPending
    ime := fun hm =>
      have hservice : s.seq.mode = .service := frame.mode.symm.trans hm
      (frame.ime (hime hservice)).trans (hs.ime hservice)
    wf := hc.run_wf hs.wf }

theorem State.Running.completable (hs : s.Running) (inp : TickIn) : s.Completable inp where
  wf := hs.wf
  irqDetected := hs.irqDetected
  eiPending := by simp [hs.eiPending]
  halted := by simp [hs.halted]

/-- HALT's c0 sets `halted` only with no interrupt pending, and then `halt_bug` is 0 (46_system.md R331). -/
theorem completable_halt (hs : s.Running) (hc : c ∈ cyclesOf .halt) : (c.run g s).Completable s.input := by
  have hw := cyclesOf_within .halt c hc
  have frame : ControlFrame _ _ s (c.run g s) := hw.run_frame
  have ei : (c.run g s).eiPending = false := (frame.eiPending rfl).trans hs.eiPending
  refine ⟨hw.run_wf hs.wf, frame.irqDetected.trans hs.irqDetected, by simp [ei], fun hh => ?_⟩
  refine ⟨(frame.locked rfl).trans hs.locked, ?_⟩
  obtain rfl : c = cOpcodeSampled (fun inp st => st.haltEntry inp) := by simpa [cyclesOf, cyclesHalt] using hc
  have pending : s.input.irqPending = false := by
    simpa [Cycle.run, cOpcodeSampled, State.haltEntry_spec, BusOp.perform_opcode, hs.halted] using hh
  simp [Cycle.run, cOpcodeSampled, State.haltEntry_spec, BusOp.perform_opcode, pending]

/-- Every cycle of an instruction leaves a state that may complete. -/
theorem completable_row {i : Instr} (hs : s.Running) (hm : s.seq.mode = .exec) (hc : c ∈ cyclesOf i) :
    (c.run g s).Completable s.input := by
  by_cases hi : i = .halt
  · subst hi; exact completable_halt hs hc
  have hw := cyclesOf_within i c hc
  have frame : ControlFrame _ _ s (c.run g s) := hw.run_frame
  have halted : (c.run g s).halted = false := (frame.halted (controlWritten_halt hi)).trans hs.halted
  refine ⟨hw.run_wf hs.wf, frame.irqDetected.trans hs.irqDetected, fun he => ⟨frame.mode.trans hm, ?_⟩,
    by simp [halted]⟩
  have enable_or_lock : (controlWritten i).enable = false ∨ (controlWritten i).lock = false := by
    cases i <;> simp [controlWritten, ControlWrites.nothing]
  obtain enable | lock := enable_or_lock
  · simp [frame.eiPending enable, hs.eiPending] at he
  · exact (frame.locked lock).trans hs.locked

/-- A sequence that completes leaves the invariant and the sequencer at rest. -/
theorem State.Sequence.tick_ends {rest : List Cycle} (hq : s.Sequence (c :: rest)) (hs : s.Running)
    (he : c.ends g rest.isEmpty s = true) :
    (c.tick g rest.isEmpty s).Inv ∧ (c.tick g rest.isEmpty s).seq = Sequencer.rest := by
  rw [Cycle.tick_ends g s he]
  refine ⟨?_, by simp⟩
  suffices h : (c.run g s).Completable s.input from h.complete_inv
  obtain ⟨hm, i, hi⟩ | ⟨hm, hi⟩ := hq
  · exact completable_row hs hm (hi.subset (List.mem_cons_self ..))
  · have hw : c.Within .nothing .all := serviceCycles_within c (hi.subset (List.mem_cons_self ..))
    exact (hs.run hw rfl rfl rfl fun _ => rfl).completable _

/-- A sequence that goes on has cycles left, runs on, and stands at the next cycle index. -/
theorem State.Sequence.tick_goes_on {rest : List Cycle} (hq : s.Sequence (c :: rest)) (hs : s.Running)
    (he : c.ends g rest.isEmpty s = false) :
    rest ≠ [] ∧ (c.tick g rest.isEmpty s).Running ∧ (c.tick g rest.isEmpty s).Sequence rest ∧
      (c.tick g rest.isEmpty s).seq.mode = s.seq.mode ∧
      (c.tick g rest.isEmpty s).seq.step = s.seq.step + 1#3 ∧
      (c.tick g rest.isEmpty s).seq.pfx = (c.run g s).seq.pfx := by
  have hrest : rest ≠ [] := by rintro rfl; simp [Cycle.ends] at he
  rw [Cycle.tick_goes_on g s he]
  have running_of_run : (c.run g s).Running → (c.run g s).advance.popInput.Running :=
    fun ⟨halted, locked, irq, ei, ime, wf⟩ => ⟨halted, locked, irq, ei, ime, wf⟩
  obtain ⟨hm, i, hi⟩ | ⟨hm, hi⟩ := hq
  · have hw := cyclesOf_within i c (hi.subset (List.mem_cons_self ..))
    have frame : ControlFrame _ _ s (c.run g s) := hw.run_frame
    obtain hone | ⟨halt, lock, enable⟩ := cyclesOf_singleton_or i
    · have := hi.length_le
      simp [hone, hrest] at this
    · refine ⟨hrest, running_of_run (hs.run hw halt lock enable (by simp [hm])),
        .inl ⟨frame.mode.trans hm, i, (List.suffix_cons c rest).trans hi⟩, frame.mode, ?_, rfl⟩
      simp [frame.step]
  · have hw : c.Within .nothing .all := serviceCycles_within c (hi.subset (List.mem_cons_self ..))
    have frame : ControlFrame _ _ s (c.run g s) := hw.run_frame
    refine ⟨hrest, running_of_run (hs.run hw rfl rfl rfl fun _ => rfl),
      .inr ⟨frame.mode.trans hm, (List.suffix_cons c rest).trans hi⟩, frame.mode, ?_, rfl⟩
    simp [frame.step]

/-- The rest of a sequence, run as a whole, leaves the invariant and the sequencer at rest. -/
theorem runTable_inv {table : List Cycle} (hne : table ≠ []) (bytes : List Byte) {s : State} (hq : s.Sequence table)
    (hs : s.Running) : (runTable bytes table s).Inv ∧ (runTable bytes table s).seq = Sequencer.rest := by
  induction table generalizing bytes s with
  | nil => exact absurd rfl hne
  | cons c rest ih =>
    cases he : c.ends (if c.op.takesByte then bytes.head? else none) rest.isEmpty s with
    | true =>
      rw [runTable_ends s bytes rest rfl he]
      exact hq.tick_ends hs he
    | false =>
      rw [runTable_goes_on s bytes rest rfl he]
      obtain ⟨hrest, hs', hq', -⟩ := hq.tick_goes_on hs he
      exact ih hrest _ hq' hs'

end

/-! ### The idle ticks and the starts -/

/-- The reset state meets R59 and memory is empty there (70_reset_and_hazards.md R471). -/
theorem State.reset_inv : State.reset.Inv := by decide

/-- The reset tick leaves the core as in the reset state, and memory canonical (40_sequencer.md R164). -/
theorem State.resetTick_inv {s : State} (h : s.mem.wf = true) : s.resetTick.Inv :=
  ⟨State.reset_inv.1, State.reset_inv.2.1, Memory.wf_writeAll h _⟩

theorem State.Inv.idleTick {s : State} (h : s.Inv) : s.idleTick.Inv :=
  ⟨h.1, h.2.1, Memory.wf_writeAll h.2.2 _⟩

/-- The halted tick clears `halted` before it sets the detection bit (40_sequencer.md R167). -/
theorem State.Inv.haltedTick {s : State} (h : s.Inv) (hm : s.seq.mode = .boundary) : s.haltedTick.Inv := by
  simp only [State.haltedTick]
  split
  · obtain ⟨⟨rest, locked, -, -, service, exec, ei⟩, pfx, wf⟩ := h
    exact ⟨⟨rest, locked, nofun, fun _ => hm, service, exec, ei⟩, pfx, Memory.wf_writeAll wf _⟩
  · exact h.idleTick

@[simp] theorem State.haltedTick_seq (s : State) : s.haltedTick.seq = s.seq := by
  simp only [State.haltedTick]; split <;> rfl

/-- In the middle of a sequence the invariant says that the sequence is running. -/
theorem State.Inv.running {s : State} (h : s.Inv) (hm : s.seq.mode ≠ .boundary) : s.Running := by
  obtain ⟨⟨-, locked, halted, irq, service, -, ei⟩, -, wf⟩ := h
  exact
    { halted := Bool.eq_false_iff.2 fun hh => hm (halted hh).1
      locked := Bool.eq_false_iff.2 fun hl => hm (locked hl)
      irqDetected := Bool.eq_false_iff.2 fun hi => hm (irq hi)
      eiPending := ei
      ime := fun hs => (service hs).1
      wf := wf }

theorem State.Inv.startInstr_running {s : State} (h : s.Inv) (hs : s.Starts) : s.startInstr.Running := by
  obtain ⟨-, -, locked, -, halted, irq⟩ := hs
  obtain ⟨⟨-, -, -, -, -, -, ei⟩, -, wf⟩ := h
  exact ⟨halted, locked, irq, ei, nofun, wf⟩

theorem State.Inv.startService_running {s : State} (h : s.Inv) (hl : s.locked = false) (hh : s.halted = false) :
    s.startService.Running := by
  obtain ⟨⟨-, -, -, -, -, -, ei⟩, -, wf⟩ := h
  exact ⟨hh, hl, rfl, ei, fun _ => rfl, wf⟩

/-! ### One tick -/

/-- Where the cycle index of a sequence in progress may stand before a tick: at 0 only with `pfx` 0, as a start leaves
it (40_sequencer.md R168, R169). -/
def State.AtCycle (s : State) : Prop :=
  s.seq.mode ≠ .boundary ∧ (s.seq.mode = .exec → s.seq.step = 0#3 → s.seq.pfx = false)

/-- A running sequence meets the invariant if its cycle index and `pfx` do. -/
theorem State.Running.inv {s : State} (h : s.Running) (hm : s.seq.mode ≠ .boundary)
    (hservice : s.seq.mode = .service → s.seq.step.toNat ≤ 4)
    (hexec : s.seq.mode = .exec → 1 ≤ s.seq.step.toNat ∧ s.seq.step.toNat ≤ 5) (hpfx : s.PrefixSeen) : s.Inv := by
  obtain ⟨halted, locked, irq, ei, ime, wf⟩ := h
  refine ⟨⟨?_, ?_, ?_, ?_, fun hs => ⟨ime hs, hservice hs⟩, hexec, ei⟩, hpfx, wf⟩
  · exact fun hb => absurd hb hm
  · simp [locked]
  · simp [halted]
  · simp [irq]

/-- In an instruction with cycles left after the next one, that one is at most its fifth. -/
theorem step_le_of_remaining_exec {s : State} {c : Cycle} {rest : List Cycle} (hm : s.seq.mode = .exec)
    (hr : s.remaining = c :: rest) (hrest : rest ≠ []) : s.seq.step.toNat ≤ 4 := by
  have hlen := congrArg List.length hr
  simp only [State.remaining, hm, List.length_drop, List.length_cons] at hlen
  have := cyclesOf_length_le s.currentRow
  have := List.length_pos_of_ne_nil hrest
  omega

/-- In the service sequence with cycles left after the next one, that one is at most its fourth. -/
theorem step_le_of_remaining_service {s : State} {c : Cycle} {rest : List Cycle} (hm : s.seq.mode = .service)
    (hr : s.remaining = c :: rest) (hrest : rest ≠ []) : s.seq.step.toNat ≤ 3 := by
  have hlen := congrArg List.length hr
  simp only [State.remaining, hm, List.length_drop, List.length_cons, serviceCycles, List.length_nil] at hlen
  have := List.length_pos_of_ne_nil hrest
  omega

/-- The cycle that an instruction performs at index 0 is its opcode fetch, which keeps `pfx`. -/
theorem run_pfx_of_remaining {s : State} {c : Cycle} {rest : List Cycle} (hm : s.seq.mode = .exec)
    (h0 : s.seq.step = 0#3) (hr : s.remaining = c :: rest) (g : Option Byte) :
    (c.run g s).seq.pfx = s.seq.pfx := by
  obtain ⟨c', rest', hrow, hop⟩ := cyclesOf_head s.currentRow
  obtain ⟨rfl, rfl⟩ : c' = c ∧ rest' = rest := by simpa [State.remaining, hm, h0, hrow] using hr
  exact (cyclesOf_within s.currentRow c' (by simp [hrow])).run_pfx hop

/-- The next cycle of a running sequence keeps the invariant. -/
theorem State.Running.tick_inv {s : State} {c : Cycle} {rest : List Cycle} (hs : s.Running) (hat : s.AtCycle)
    (hr : s.remaining = c :: rest) : (c.tick none rest.isEmpty s).Inv := by
  obtain ⟨hmode, hpfx⟩ := hat
  have hq : s.Sequence (c :: rest) := hr ▸ State.sequence_remaining hmode
  cases he : c.ends none rest.isEmpty s with
  | true => exact (hq.tick_ends hs he).1
  | false =>
    obtain ⟨hrest, hs', -, mode, step, pfx⟩ := hq.tick_goes_on hs he
    have step_toNat : s.seq.step.toNat ≤ 4 →
        (c.tick none rest.isEmpty s).seq.step.toNat = s.seq.step.toNat + 1 := by
      intro hle; rw [step]; bv_omega
    refine hs'.inv (by rwa [mode]) (fun hm => ?_) (fun hm => ?_) (fun hm hp => ?_)
    · have hle := step_le_of_remaining_service (mode.symm.trans hm) hr hrest
      have := step_toNat (by omega)
      omega
    · have hle := step_le_of_remaining_exec (mode.symm.trans hm) hr hrest
      have := step_toNat hle
      omega
    · have hexec := mode.symm.trans hm
      have := step_toNat (step_le_of_remaining_exec hexec hr hrest)
      have step_ne : s.seq.step ≠ 0#3 := by
        intro h0
        rw [pfx, run_pfx_of_remaining hexec h0 hr, hpfx hexec h0] at hp
        cases hp
      have : s.seq.step.toNat ≠ 0 := fun h0 => step_ne (BitVec.eq_of_toNat_eq h0)
      omega

/-! ### What each case of a tick says of the state (40_sequencer.md R163) -/

theorem mode_of_tickCase_halted {s : State} (h : s.tickCase = .halted) : s.seq.mode = .boundary := by
  have := s.tickCase_spec
  simp_all

/-- The idle tick is taken at a boundary only: a locked core stands at one (10_state.md R59 (b)). -/
theorem State.Inv.mode_of_idle {s : State} (h : s.Inv) (hc : s.tickCase = .locked ∨ s.tickCase = .held) :
    s.seq.mode = .boundary := by
  obtain ⟨⟨-, locked, -⟩, -⟩ := h
  have := s.tickCase_spec
  obtain hc | hc := hc <;> simp_all

theorem unlocked_of_tickCase_startService {s : State} (h : s.tickCase = .startService) :
    s.locked = false ∧ s.halted = false := by
  have := s.tickCase_spec
  simp_all

theorem starts_of_tickCase {s : State} (h : s.tickCase = .startInstr) : s.Starts := by
  simpa [h] using s.tickCase_spec

theorem mode_of_tickCase_goOn {s : State} (h : s.tickCase = .goOn) : s.seq.mode ≠ .boundary := by
  have := s.tickCase_spec
  simp_all

/-- Settles O9: the four idle ticks keep the invariant by themselves, and the next cycle of a sequence keeps it by what
its row may write. -/
theorem tickKeepsInvariant : Obligations.TickKeepsInvariant := by
  intro s t h ht
  obtain ⟨-, rfl⟩ | ⟨-, rfl⟩ | ⟨hc, rfl⟩ | ⟨s', c, rest, hstart, hr, rfl⟩ := tick_cases ht
  · exact State.resetTick_inv h.2.2
  · exact h.idleTick
  · exact h.haltedTick (mode_of_tickCase_halted hc)
  obtain ⟨hc, rfl⟩ | ⟨hc, rfl⟩ | ⟨hc, h0, rfl⟩ := hstart
  · obtain ⟨locked, halted⟩ := unlocked_of_tickCase_startService hc
    exact (h.startService_running locked halted).tick_inv ⟨nofun, nofun⟩ hr
  · exact (h.startInstr_running (starts_of_tickCase hc)).tick_inv ⟨nofun, fun _ _ => rfl⟩ hr
  · have hm := mode_of_tickCase_goOn hc
    exact (h.running hm).tick_inv ⟨hm, fun _ h1 => absurd h1 h0⟩ hr

/-! ### One step -/

/-- Every instruction is bytes run through the table of a row: its own, or for PREFIX the selected one
(30_encoding.md R120; log 7). -/
theorem exec_eq_row (i : Instr) (s : State) : ∃ bytes row,
    exec i s = .next (runTable bytes (cyclesOf row) s.startInstr) ∧
    (row = i ∨ i = .prefixByte ∧ row = decodePrefixed (s.instrByte 1)) := by
  by_cases hi : i = .prefixByte
  · subst hi; exact ⟨_, _, exec_prefixByte s, .inr ⟨rfl, rfl⟩⟩
  · exact ⟨_, i, exec_eq_runInstr s hi, .inl rfl⟩

theorem cyclesOf_ne_nil (i : Instr) : cyclesOf i ≠ [] := by
  obtain ⟨c, rest, h, -⟩ := cyclesOf_head i
  simp [h]

/-- Settles O10: the four idle ticks are at a boundary, and a whole sequence runs to its completion. -/
theorem stepKeepsInvariant : Obligations.StepKeepsInvariant := by
  intro s t h ht
  have rest_of_boundary : s.seq.mode = .boundary → s.seq = Sequencer.rest := h.1.1
  obtain ⟨-, rfl⟩ | ⟨hc, rfl⟩ | ⟨hc, rfl⟩ | ⟨hc, rfl⟩ | ⟨hc, ht⟩ | ⟨hc, -, c, rest, hr, rfl⟩ := step_cases ht
  · exact ⟨State.resetTick_inv h.2.2, rfl⟩
  · exact ⟨h.idleTick, rest_of_boundary (h.mode_of_idle hc)⟩
  · have hm := mode_of_tickCase_halted hc
    exact ⟨h.haltedTick hm, s.haltedTick_seq.trans (rest_of_boundary hm)⟩
  · obtain ⟨locked, halted⟩ := unlocked_of_tickCase_startService hc
    exact runTable_inv (List.cons_ne_nil _ _) [] (.inr ⟨rfl, List.suffix_rfl⟩) (h.startService_running locked halted)
  · obtain ⟨bytes, row, hrun, -⟩ := exec_eq_row s.fetched s
    obtain rfl : _ = t := by simpa using hrun.symm.trans ht
    exact runTable_inv (cyclesOf_ne_nil row) bytes (.inl ⟨rfl, row, List.suffix_rfl⟩)
      (h.startInstr_running (starts_of_tickCase hc))
  · have hm := mode_of_tickCase_goOn hc
    exact runTable_inv (List.cons_ne_nil _ _) [] (hr ▸ State.sequence_remaining hm) (h.running hm)

/-- Settles O11. -/
theorem resetMeetsInvariant : Obligations.ResetMeetsInvariant := State.reset_inv

end Sys2Proof.Machine
end

section
/-! What a whole instruction leaves unchanged (10_state.md R45, R49, R55 to R57): each item a tick keeps is kept by the
run of the row's table. -/

namespace Sys2Proof.Machine

/-! ### The fields after a tick of a sequence -/

section
variable (c : Cycle) (g : Option Byte) (last : Bool) (s : State)

/-- Completion and the next cycle index touch no flag. -/
@[simp] theorem Cycle.tick_flags : (c.tick g last s).flags = (c.run g s).flags := by
  simp only [Cycle.tick]; split <;> simp

@[simp] theorem Cycle.tick_halted : (c.tick g last s).halted = (c.run g s).halted := by
  simp only [Cycle.tick]; split <;> simp

@[simp] theorem Cycle.tick_locked : (c.tick g last s).locked = (c.run g s).locked := by
  simp only [Cycle.tick]; split <;> simp

@[simp] theorem Cycle.tick_haltBug : (c.tick g last s).haltBug = (c.run g s).haltBug := by
  simp only [Cycle.tick]; split <;> simp

/-- With no enable waiting the poll point writes neither IME nor `ei_pending` (40_sequencer.md R176). -/
theorem Cycle.tick_ime_of_eiPending (h : (c.run g s).eiPending = false) :
    (c.tick g last s).ime = (c.run g s).ime ∧ (c.tick g last s).eiPending = false := by
  simp only [Cycle.tick]; split <;> simp [h]

end

/-! ### The fields after a run -/

section
variable {w : ControlWrites} {f : Flags} {table : List Cycle} (ht : TableWithin w f table) (bytes : List Byte)
  (s : State)
include ht

theorem TableWithin.runTable_flags : FlagsKept f s.flags (runTable bytes table s).flags :=
  runTable_keeps (fun t => FlagsKept f s.flags t.flags) table
    (fun c hc g last u hu => by simpa using hu.trans (ht c hc).run_frame.flags) bytes s (FlagsKept.same _ _)

theorem TableWithin.runTable_halted (hw : w.halt = false) : (runTable bytes table s).halted = s.halted :=
  runTable_keeps (fun t => t.halted = s.halted) table
    (fun c hc g last u hu => by simpa using ((ht c hc).run_frame.halted hw).trans hu) bytes s rfl

theorem TableWithin.runTable_locked (hw : w.lock = false) : (runTable bytes table s).locked = s.locked :=
  runTable_keeps (fun t => t.locked = s.locked) table
    (fun c hc g last u hu => by simpa using ((ht c hc).run_frame.locked hw).trans hu) bytes s rfl

/-- A run that writes neither IME nor `ei_pending` keeps IME, if no earlier enable waits. -/
theorem TableWithin.runTable_ime (hime : w.ime = false) (hen : w.enable = false) (hs : s.eiPending = false) :
    (runTable bytes table s).ime = s.ime :=
  (runTable_keeps (fun t => t.ime = s.ime ∧ t.eiPending = false) table
    (fun c hc g last u hu => by
      have frame : ControlFrame w f u (c.run g u) := (ht c hc).run_frame
      obtain ⟨ime, ei⟩ := Cycle.tick_ime_of_eiPending c g last u ((frame.eiPending hen).trans hu.2)
      exact ⟨ime.trans ((frame.ime hime).trans hu.1), ei⟩) bytes s ⟨rfl, hs⟩).1

/-- Once `halt_bug` is 0 only HALT's actions can set it again. -/
theorem TableWithin.runTable_haltBug_of_false (hw : w.halt = false) (hs : s.haltBug = false) :
    (runTable bytes table s).haltBug = false :=
  runTable_keeps (fun t => t.haltBug = false) table
    (fun c hc g last u hu => by simpa using (ht c hc).run_haltBug_of_false hw hu) bytes s hs

end

/-- A run that begins with an opcode fetch consumes the halt glitch (40_sequencer.md R170). -/
theorem runTable_haltBug_row {i : Instr} (hw : (controlWritten i).halt = false) (bytes : List Byte) (s : State) :
    (runTable bytes (cyclesOf i) s).haltBug = false := by
  obtain ⟨c, rest, hrow, hop⟩ := cyclesOf_head i
  have hin := cyclesOf_within i
  rw [hrow] at hin ⊢
  obtain ⟨hc, hrest⟩ := tableWithin_cons.1 hin
  have tick_haltBug (g : Option Byte) : (c.tick g rest.isEmpty s).haltBug = false := by
    simpa using hc.run_haltBug_opcode hw hop
  cases he : c.ends (if c.op.takesByte then bytes.head? else none) rest.isEmpty s with
  | true => rw [runTable_ends s bytes rest rfl he]; exact tick_haltBug _
  | false =>
    rw [runTable_goes_on s bytes rest rfl he]
    exact hrest.runTable_haltBug_of_false _ _ hw (tick_haltBug _)

/-! ### The rows the rules name -/

/-- No prefixed row writes a control item (30_encoding.md R122). -/
theorem controlWritten_decodePrefixed (b : Byte) : controlWritten (decodePrefixed b) = .nothing := by
  simp only [decodePrefixed]
  split <;> rfl

/-- The control items that the row run by `exec i` may write are those of `i`. -/
theorem exec_eq_row_controlWritten {i : Instr} {s t : State} (h : exec i s = .next t) : ∃ bytes row,
    t = runTable bytes (cyclesOf row) s.startInstr ∧ controlWritten row = controlWritten i ∧
    (row = i ∨ i = .prefixByte) := by
  obtain ⟨bytes, row, hrun, hrow⟩ := exec_eq_row i s
  obtain rfl : _ = t := by simpa using hrun.symm.trans h
  refine ⟨bytes, row, rfl, ?_, hrow.imp_right And.left⟩
  obtain rfl | ⟨rfl, rfl⟩ := hrow
  · rfl
  · exact controlWritten_decodePrefixed _

/-- Settles O28: the run of a row keeps the flags its actions keep; for PREFIX no flag is promised. -/
theorem flagsWrittenAreTheTables : Obligations.FlagsWrittenAreTheTables := by
  refine ⟨fun i s t h => ?_, fun s => ?_⟩
  · show FlagsKept (flagsWritten i) s.flags t.flags
    obtain ⟨bytes, row, rfl, -, rfl | rfl⟩ := exec_eq_row_controlWritten h
    · exact (cyclesOf_within row).runTable_flags bytes s.startInstr
    · exact FlagsKept.all _ _
  · exact ((serviceCycles_within (w := .nothing)).runTable_flags [] s.startService).eq_of_dashes

/-- Settles O29: the run of a row keeps the control items its actions keep, and its c0 clears `halt_bug`. -/
theorem controlStateWrittenByFewInstructions : Obligations.ControlStateWrittenByFewInstructions := by
  intro i s t h
  obtain ⟨bytes, row, rfl, hrow, -⟩ := exec_eq_row_controlWritten h
  have hin := cyclesOf_within row
  refine ⟨fun hei hdi hreti hs => ?_, fun hh => ?_, fun hDD hED hFD => ?_, fun hh => ?_⟩
  · obtain ⟨ime, enable⟩ := controlWritten_ime_enable hei hdi hreti
    exact hin.runTable_ime bytes s.startInstr (hrow ▸ ime) (hrow ▸ enable) hs
  · exact hin.runTable_halted bytes s.startInstr (hrow ▸ controlWritten_halt hh)
  · exact hin.runTable_locked bytes s.startInstr (hrow ▸ controlWritten_lock hDD hED hFD)
  · exact runTable_haltBug_row (hrow ▸ controlWritten_halt hh) bytes s.startInstr

end Sys2Proof.Machine
end

section
/-! The next state depends on nothing outside the state and the tick's own sample (10_state.md R58, 20_memory.md R68):
no action reads the log or the samples to come. -/

namespace Sys2Proof.Machine

/-! ### The state with other samples to come and another log -/

/-- `s` with the samples `ins` to come and the log `l`. -/
def State.withRun (s : State) (ins : List TickIn) (l : List BusCycle) : State := { s with inputs := ins, log := l }

section
variable (s : State) (ins : List TickIn) (l : List BusCycle)

@[simp] theorem State.withRun_regs : (s.withRun ins l).regs = s.regs := rfl
@[simp] theorem State.withRun_flags : (s.withRun ins l).flags = s.flags := rfl
@[simp] theorem State.withRun_pc : (s.withRun ins l).pc = s.pc := rfl
@[simp] theorem State.withRun_sp : (s.withRun ins l).sp = s.sp := rfl
@[simp] theorem State.withRun_seq : (s.withRun ins l).seq = s.seq := rfl
@[simp] theorem State.withRun_mem : (s.withRun ins l).mem = s.mem := rfl
@[simp] theorem State.readReg_withRun (r : Reg) : (s.withRun ins l).readReg r = s.readReg r := rfl
@[simp] theorem State.readPair_withRun (p : Pair) : (s.withRun ins l).readPair p = s.readPair p := rfl
@[simp] theorem State.hl_withRun : (s.withRun ins l).hl = s.hl := rfl
@[simp] theorem State.wz_withRun : (s.withRun ins l).wz = s.wz := rfl
@[simp] theorem State.readAF_withRun : (s.withRun ins l).readAF = s.readAF := rfl

@[simp] theorem State.setA_withRun (v : Byte) : (s.withRun ins l).setA v = (s.setA v).withRun ins l := rfl
@[simp] theorem State.setFlags_withRun (f : Flags) : (s.withRun ins l).setFlags f = (s.setFlags f).withRun ins l := rfl
@[simp] theorem State.setPC_withRun (v : Word) : (s.withRun ins l).setPC v = (s.setPC v).withRun ins l := rfl
@[simp] theorem State.setSP_withRun (v : Word) : (s.withRun ins l).setSP v = (s.setSP v).withRun ins l := rfl
@[simp] theorem State.setIME_withRun (v : Bool) : (s.withRun ins l).setIME v = (s.setIME v).withRun ins l := rfl
@[simp] theorem State.setZ_withRun (v : Byte) : (s.withRun ins l).setZ v = (s.setZ v).withRun ins l := rfl
@[simp] theorem State.setW_withRun (v : Byte) : (s.withRun ins l).setW v = (s.setW v).withRun ins l := rfl
@[simp] theorem State.writeAF_withRun (v : Word) : (s.withRun ins l).writeAF v = (s.writeAF v).withRun ins l := rfl
@[simp] theorem State.operate_withRun (op : AluOp) (v : Byte) :
    (s.withRun ins l).operate op v = (s.operate op v).withRun ins l := rfl
@[simp] theorem State.latchPrefixed_withRun (b : Byte) :
    (s.withRun ins l).latchPrefixed b = (s.latchPrefixed b).withRun ins l := rfl
@[simp] theorem State.advance_withRun : (s.withRun ins l).advance = s.advance.withRun ins l := rfl

@[simp] theorem State.writeReg_withRun (r : Reg) (v : Byte) :
    (s.withRun ins l).writeReg r v = (s.writeReg r v).withRun ins l := by cases r <;> rfl

@[simp] theorem State.writePair_withRun (p : Pair) (v : Word) :
    (s.withRun ins l).writePair p v = (s.writePair p v).withRun ins l := by cases p <;> rfl

@[simp] theorem State.haltEntry_withRun (inp : TickIn) :
    (s.withRun ins l).haltEntry inp = (s.haltEntry inp).withRun ins l := by
  simp only [State.haltEntry_spec]; rfl

@[simp] theorem State.complete_withRun (inp : TickIn) :
    (s.withRun ins l).complete inp = (s.complete inp).withRun ins l := by
  simp only [State.complete, apply_ite (fun t : State => t.withRun ins l)]; rfl

end

/-! ### What looks at neither -/

/-- An update of the state that neither reads nor writes the samples to come and the log. -/
def BlindUpdate (act : State → State) : Prop := ∀ s ins l, act (s.withRun ins l) = (act s).withRun ins l

/-- A value that comes from neither. -/
def BlindRead {α : Type} (f : State → α) : Prop := ∀ s ins l, f (s.withRun ins l) = f s

/-- A bus operation whose address and datum come from neither. -/
def BusOp.Blind : BusOp → Prop
  | .read addr => BlindRead addr
  | .write addr v => BlindRead addr ∧ BlindRead v
  | .push v => BlindRead v
  | _ => True

/-- A cycle all of whose parts look at neither. -/
def Cycle.Blind (c : Cycle) : Prop :=
  c.op.Blind ∧ (∀ inp b, BlindUpdate (c.act inp b)) ∧ BlindRead c.stops

/-- A table all of whose cycles look at neither. -/
def BlindTable (table : List Cycle) : Prop := ∀ c ∈ table, c.Blind

@[simp] theorem blindTable_nil : BlindTable [] := by simp [BlindTable]

@[simp] theorem blindTable_cons {c : Cycle} {rest : List Cycle} :
    BlindTable (c :: rest) ↔ c.Blind ∧ BlindTable rest := by
  simp [BlindTable]

@[simp] theorem blindUpdate_id : BlindUpdate id := fun _ _ _ => rfl

/-! ### The bus operations -/

/-- A blind bus operation logs the same cycle, and does the same beside it, whatever is to come and was logged. -/
theorem BusOp.Blind.perform {op : BusOp} (h : op.Blind) (inp : TickIn) (g : Option Byte) (s : State) :
    ∃ c, ∀ ins l,
    op.perform inp g (s.withRun ins l) = ((op.perform inp g s).1.withRun ins (c :: l), (op.perform inp g s).2) := by
  cases op with
  | opcode => exact ⟨.read s.pc (g.getD (s.mem.read s.pc)), fun _ _ => rfl⟩
  | fetch => exact ⟨.read s.pc (g.getD (s.mem.read s.pc)), fun _ _ => rfl⟩
  | pop => exact ⟨.read s.sp (s.mem.read s.sp), fun _ _ => rfl⟩
  | idle => exact ⟨.idle none, fun _ _ => rfl⟩
  | idleAck => exact ⟨.idle inp.selected, fun _ _ => rfl⟩
  | read addr =>
    have addr_withRun : BlindRead addr := h
    refine ⟨.read (addr s) (s.mem.read (addr s)), fun ins l => ?_⟩
    simp only [perform_read, addr_withRun s ins l]; rfl
  | write addr v =>
    obtain ⟨addr_withRun, v_withRun⟩ : BlindRead addr ∧ BlindRead v := h
    refine ⟨.write (addr s) (v s), fun ins l => ?_⟩
    simp only [perform_write, addr_withRun s ins l, v_withRun s ins l]; rfl
  | push v =>
    have v_withRun : BlindRead v := h
    refine ⟨.write (s.sp - 1#16) (v s), fun ins l => ?_⟩
    simp only [perform_push, v_withRun s ins l]; rfl

/-! ### The cycles the tables are written with -/

@[simp] theorem blindRead_neverStops : BlindRead neverStops := fun _ _ _ => rfl
@[simp] theorem blindRead_hl : BlindRead State.hl := fun _ _ _ => rfl
@[simp] theorem blindRead_wz : BlindRead State.wz := fun _ _ _ => rfl
@[simp] theorem blindRead_readPair (p : Pair) : BlindRead (fun s => s.readPair p) := fun _ _ _ => rfl
@[simp] theorem blindRead_const {α : Type} (v : α) : BlindRead (fun _ => v) := fun _ _ _ => rfl

@[simp] theorem blind_cOpcodeSampled {act : TickIn → State → State} : (cOpcodeSampled act).Blind ↔
    ∀ inp, BlindUpdate (act inp) := by
  simp [Cycle.Blind, cOpcodeSampled, BusOp.Blind]

@[simp] theorem blind_cOpcode {act : State → State} : (cOpcode act).Blind ↔ BlindUpdate act := by
  simp [cOpcode, forall_tickIn]

@[simp] theorem blind_c0 : c0.Blind := by simp [c0]

@[simp] theorem blind_cFetch {act : Byte → State → State} : (cFetch act).Blind ↔ ∀ b, BlindUpdate (act b) := by
  simp [Cycle.Blind, cFetch, BusOp.Blind, forall_tickIn]

@[simp] theorem blind_cPop {act : Byte → State → State} : (cPop act).Blind ↔ ∀ b, BlindUpdate (act b) := by
  simp [Cycle.Blind, cPop, BusOp.Blind, forall_tickIn]

@[simp] theorem blind_cIdle {act : State → State} : (cIdle act).Blind ↔ BlindUpdate act := by
  simp [Cycle.Blind, cIdle, BusOp.Blind, forall_tickIn]

@[simp] theorem blind_cRead {addr : State → Word} {act : Byte → State → State} : (cRead addr act).Blind ↔
    BlindRead addr ∧ ∀ b, BlindUpdate (act b) := by
  simp [Cycle.Blind, cRead, BusOp.Blind, forall_tickIn]

@[simp] theorem blind_cWrite {addr : State → Word} {v : State → Byte} {act : State → State} :
    (cWrite addr v act).Blind ↔ (BlindRead addr ∧ BlindRead v) ∧ BlindUpdate act := by
  simp [Cycle.Blind, cWrite, BusOp.Blind, forall_tickIn]

@[simp] theorem blind_cPush {v : State → Byte} {act : State → State} : (cPush v act).Blind ↔
    BlindRead v ∧ BlindUpdate act := by
  simp [Cycle.Blind, cPush, BusOp.Blind, forall_tickIn]

@[simp] theorem blind_cPrefixed {act : State → State} : (cPrefixed act).Blind ↔
    ∀ b, BlindUpdate (fun s => act (s.latchPrefixed b)) := by
  simp [cPrefixed]

@[simp] theorem blind_cFetchZ : cFetchZ.Blind := by simp [cFetchZ, BlindUpdate]
@[simp] theorem blind_cFetchW : cFetchW.Blind := by simp [cFetchW, BlindUpdate]
@[simp] theorem blind_cPopZ : cPopZ.Blind := by simp [cPopZ, BlindUpdate]
@[simp] theorem blind_cPopW : cPopW.Blind := by simp [cPopW, BlindUpdate]
@[simp] theorem blind_cIndex : cIndex.Blind := by simp [cIndex, BlindUpdate]

@[simp] theorem blind_cSelect : cSelect.Blind :=
  ⟨trivial, fun _ _ _ _ _ => rfl, fun _ _ _ => rfl⟩

/-- A condition looks at the flags alone (45_control.md R300). -/
theorem Cycle.Blind.ifTaken {c : Cycle} (h : c.Blind) (cc : Cond) : (c.ifTaken cc).Blind :=
  ⟨h.1, h.2.1, fun _ _ _ => rfl⟩

/-! ### The shared cycle tables -/

theorem aluRegister_blind (op : AluOp) (r : Reg) : BlindTable (aluRegister op r) := by
  simp [aluRegister, BlindUpdate]

theorem aluMemory_blind (op : AluOp) : BlindTable (aluMemory op) := by
  simp [aluMemory, BlindUpdate]

theorem aluImmediate_blind (op : AluOp) : BlindTable (aluImmediate op) := by
  simp [aluImmediate, BlindUpdate]

theorem stepRegister_blind (op : Byte → Flags → Byte × Flags) (r : Reg) : BlindTable (stepRegister op r) := by
  simp [stepRegister, BlindUpdate]

theorem modifyHL_blind (op : Byte → Flags → Byte × Flags) : BlindTable (modifyHL op) := by
  simp [modifyHL, BlindRead, BlindUpdate]

theorem prefixedRegister_blind (op : Byte → Flags → Byte × Flags) (r : Reg) : BlindTable (prefixedRegister op r) := by
  simp [prefixedRegister, BlindUpdate]

theorem prefixedMemory_blind (op : Byte → Flags → Byte × Flags) : BlindTable (prefixedMemory op) := by
  simp [prefixedMemory, modifyHL_blind, BlindUpdate]

theorem bitRegister_blind (b : Oct) (r : Reg) : BlindTable (bitRegister b r) := by
  simp [bitRegister, BlindUpdate]

theorem bitMemory_blind (b : Oct) : BlindTable (bitMemory b) := by
  simp [bitMemory, BlindUpdate]

theorem loadIndirect_blind (p : Pair) {act : Byte → State → State} (h : ∀ b, BlindUpdate (act b)) :
    BlindTable (loadIndirect p act) := by
  simp [loadIndirect, h]

theorem storeIndirect_blind (p : Pair) {v : State → Byte} (h : BlindRead v) :
    BlindTable (storeIndirect p v) := by
  simp [storeIndirect, h]

theorem pushReturn_blind {target : State → Word} (h : BlindRead target) :
    BlindTable (pushReturn target) := by
  simp [pushReturn, BlindRead, BlindUpdate, h _ _ _]

theorem trapCycles_blind (vec : Word) : BlindTable (trapCycles vec) := by
  simp [trapCycles, pushReturn_blind]

theorem returnCycles_blind {act : State → State} (h : BlindUpdate act) : BlindTable (returnCycles act) := by
  simp [returnCycles, BlindUpdate, h _ _ _]

theorem serviceCycles_blind : BlindTable serviceCycles := by
  simp [serviceCycles, BlindRead]

/-! ### Every row -/

/-- No cycle of any row looks at the samples to come or the log (20_memory.md R68, 10_state.md R58). -/
theorem cyclesOf_blind (i : Instr) : BlindTable (cyclesOf i) := by
  cases i with
  | nop | undAliasD3 | undAliasDB | undAliasE3 | undAliasEB =>
    show BlindTable [c0]; simp
  | addAR r | adcAR r | subAR r | sbcAR r | andAR r | xorAR r | orAR r | cpAR r => exact aluRegister_blind _ r
  | addAM | adcAM | subAM | sbcAM | andAM | xorAM | orAM | cpAM => exact aluMemory_blind _
  | addAN | adcAN | subAN | sbcAN | andAN | xorAN | orAN | cpAN => exact aluImmediate_blind _
  | incR r | decR r => exact stepRegister_blind _ r
  | incM | decM => exact blindTable_cons.2 ⟨blind_c0, modifyHL_blind _⟩
  | rlcR r | rrcR r | rlR r | rrR r | slaR r | sraR r | swapR r | srlR r | resR _ r | setR _ r =>
    exact prefixedRegister_blind _ r
  | rlcM | rrcM | rlM | rrM | slaM | sraM | swapM | srlM | resM | setM => exact prefixedMemory_blind _
  | bitR b r => exact bitRegister_blind b r
  | bitM b => exact bitMemory_blind b
  | prefixByte =>
    show BlindTable [c0, cPrefixed id]
    simp [BlindUpdate]
  | ldRM | ldABc | ldADe => exact loadIndirect_blind _ (by simp [BlindUpdate])
  | ldMR | ldBcA | ldDeA => exact storeIndirect_blind _ fun _ _ _ => rfl
  | swi | undTrap => exact blindTable_cons.2 ⟨blind_c0, trapCycles_blind _⟩
  | ret | reti => exact blindTable_cons.2 ⟨blind_c0, returnCycles_blind (by simp [BlindUpdate])⟩
  | retCc cc =>
    show BlindTable (c0 :: (cIdle id).ifTaken cc :: returnCycles id)
    simp [Cycle.Blind.ifTaken, returnCycles_blind]
  | jr | jrCc | jp | jpCc | jpHl | call | callCc =>
    simp [cyclesOf, cyclesJr, cyclesJrCc, cyclesJp, cyclesJpCc, cyclesJpHl, cyclesCall, cyclesCallCc,
      Cycle.Blind.ifTaken, pushReturn_blind, BlindUpdate]
  | ldRR | ldRN | ldMN | ldANn | ldNnA | ldAHld | ldHldA =>
    simp [cyclesOf, cyclesLdRR, cyclesLdRN, cyclesLdMN, cyclesLdANn, cyclesLdNnA, cyclesLdAHld, cyclesLdHldA,
      BlindRead, BlindUpdate]
  | ldPpNn | ldSpHl | pushQq | pushAf | popQq | popAf =>
    simp [cyclesOf, cyclesLdPpNn, cyclesLdSpHl, cyclesPushQq, cyclesPushAf, cyclesPopQq, cyclesPopAf, BlindRead,
      BlindUpdate]
  | incPp | decPp | addHlPp =>
    simp [cyclesOf, cyclesIncPp, cyclesDecPp, cyclesAddHlPp, BlindUpdate]
  | scf | ccf | ldFA | cpl | ldAF =>
    simp [cyclesOf, cyclesScf, cyclesCcf, cyclesLdFA, cyclesCpl, cyclesLdAF, BlindUpdate]
  | ei | di | undLockDD | undLockED | undLockFD =>
    exact blindTable_cons.2 ⟨blind_cOpcode.2 fun _ _ _ => rfl, blindTable_nil⟩
  | halt => simp [cyclesOf, cyclesHalt, BlindUpdate]

/-! ### One tick -/

theorem blind_of_mem_remaining {s : State} {c : Cycle} (hc : c ∈ s.remaining) : c.Blind := by
  simp only [State.remaining] at hc
  split at hc
  · cases hc
  · exact cyclesOf_blind _ c (List.mem_of_mem_drop hc)
  · exact serviceCycles_blind c (List.mem_of_mem_drop hc)

section
variable (s : State) (i : TickIn)

/-- The bus operation and the actions of a blind cycle: the same state but for what is to come and what was logged. -/
theorem Cycle.Blind.run {c : Cycle} (hc : c.Blind) (g : Option Byte) : ∃ t b, ∀ later l,
    c.run g (s.withRun (i :: later) l) = State.withRun t (i :: later) (b :: l) := by
  obtain ⟨hop, hact, -⟩ := hc
  obtain ⟨b, hb⟩ := hop.perform i g (s.setMem (s.mem.writeAll i.others))
  generalize c.op.perform i g (s.setMem (s.mem.writeAll i.others)) = performed at hb
  refine ⟨c.act i performed.2 performed.1, b, fun later l => ?_⟩
  have begin_withRun : (s.withRun (i :: later) l).beginTick =
      (s.setMem (s.mem.writeAll i.others)).withRun (i :: later) l := rfl
  have input_withRun : (s.withRun (i :: later) l).input = i := rfl
  simp only [Cycle.run, begin_withRun, input_withRun, hb, hact i _ _ _ _]

/-- A tick of a blind cycle: one next state and one bus cycle, whatever is to come and was logged. -/
theorem Cycle.Blind.tick {c : Cycle} (hc : c.Blind) (g : Option Byte) (last : Bool) : ∃ t b, ∀ later l,
    c.tick g last (s.withRun (i :: later) l) = State.withRun t later (b :: l) := by
  obtain ⟨u, b, run_withRun⟩ := hc.run s i g
  obtain ⟨-, -, hstops⟩ := hc
  refine ⟨if last || c.stops u then u.complete i else u.advance, b, fun later l => ?_⟩
  have input_withRun : (s.withRun (i :: later) l).input = i := rfl
  simp only [Cycle.tick, Cycle.ends, run_withRun, hstops _ _ _, input_withRun]
  split <;> simp <;> rfl

/-- The outcome of a tick is one for every list of later samples and every log. -/
def BlindOutcome (run : State → Host.Outcome State Fault Refusal) : Prop :=
  (∃ t b, ∀ later l, run (s.withRun (i :: later) l) = .next (State.withRun t later (b :: l))) ∨
  (∃ r, ∀ later l, run (s.withRun (i :: later) l) = .refused r)

theorem tickSequence_blind : BlindOutcome s i State.tickSequence := by
  have remaining_withRun (later l) : (s.withRun (i :: later) l).remaining = (s.withRun [i] []).remaining := rfl
  simp only [BlindOutcome, State.tickSequence, remaining_withRun]
  cases hr : (s.withRun [i] []).remaining with
  | nil => exact .inr ⟨.noSuchCycle, fun _ _ => rfl⟩
  | cons c rest =>
    have hc : c.Blind := blind_of_mem_remaining (hr ▸ List.mem_cons_self ..)
    obtain ⟨t, b, ht⟩ := hc.tick s i none rest.isEmpty
    exact .inl ⟨t, b, fun later l => congrArg _ (ht later l)⟩

/-- The halted tick looks at its own sample alone (40_sequencer.md R167). -/
theorem haltedTick_blind : ∃ t, ∀ later l,
    (s.withRun (i :: later) l).haltedTick = State.withRun t later (.idle none :: l) := by
  refine ⟨if i.irqPending then
      { s.setMem (s.mem.writeAll i.others) with halted := false, irqDetected := s.irqDetected || s.ime }
    else s.setMem (s.mem.writeAll i.others), fun later l => ?_⟩
  have input_withRun : (s.withRun (i :: later) l).input = i := rfl
  simp only [State.haltedTick, input_withRun]
  split <;> rfl

end

/-- Settles O16: the case of the tick and the cycle it performs are chosen by the state and its own sample, and no
cycle looks further. -/
theorem nextStateHasNoHiddenInput : Obligations.NextStateHasNoHiddenInput := by
  intro s i
  show BlindOutcome s i tick
  have tickCase_withRun (later l) : (s.withRun (i :: later) l).tickCase = (s.withRun [i] []).tickCase := rfl
  simp only [BlindOutcome, tick, tickCase_withRun]
  cases (s.withRun [i] []).tickCase with
  | reset => exact .inl ⟨State.reset.setMem (s.mem.writeAll i.others), .idle none, fun _ _ => rfl⟩
  | locked | held => exact .inl ⟨s.setMem (s.mem.writeAll i.others), .idle none, fun _ _ => rfl⟩
  | halted =>
    obtain ⟨t, ht⟩ := haltedTick_blind s i
    exact .inl ⟨t, .idle none, fun later l => congrArg _ (ht later l)⟩
  | startService => exact tickSequence_blind s.startService i
  | startInstr => exact tickSequence_blind s.startInstr i
  | goOn =>
    by_cases h0 : s.seq.step = 0#3
    · exact .inr ⟨.noSuchCycle, fun _ _ => by simp [h0]⟩
    · simpa [h0, BlindOutcome] using tickSequence_blind s i

end Sys2Proof.Machine
end

section
/-! The flag byte (10_state.md R46 to R48) and the pair views of the registers (10_state.md R33, R34). -/

namespace Sys2Proof.Machine

/-! ### The flag byte -/

theorem getLsbD_flagBit (f : Bool) (n i : Nat) (hi : i < 8) : (flagBit f n).getLsbD i = (decide (i = n) && f) := by
  cases f with
  | false => simp [flagBit]
  | true =>
    have shifted_one : flagBit true n = BitVec.twoPow 8 n := rfl
    rw [shifted_one, BitVec.getLsbD_twoPow, Bool.and_true, Bool.eq_iff_iff]
    simp only [Bool.and_eq_true, decide_eq_true_eq]
    omega

/-- The flags stand at their bits, bit 5 is 1 and bits 3 and 1 are 0 (10_state.md R46). -/
theorem getLsbD_pack (f : Flags) (i : Nat) (hi : i < 8) : (pack f).getLsbD i =
    (decide (i = 7) && f.sf || decide (i = 6) && f.zf || decide (i = 5) || decide (i = 4) && f.hf ||
      decide (i = 2) && f.vf || decide (i = 0) && f.cf) := by
  have flagOnes_bit : Config.flagOnes.getLsbD i = decide (i = 5) := by interval_cases i <;> rfl
  simp only [pack, BitVec.getLsbD_or, getLsbD_flagBit _ _ _ hi, flagOnes_bit]

/-- Reading back a packed flag byte gives every flag (10_state.md R48). -/
@[simp] theorem unpack_pack (f : Flags) : unpack (pack f) = f := by
  simp only [unpack, getLsbD_pack, Nat.reduceLT]
  simp

theorem pack_unpack (b : Byte) : pack (unpack b) = (b &&& 0xD5#8) ||| 0x20#8 := by
  apply BitVec.eq_of_getLsbD_eq
  intro i hi
  rw [getLsbD_pack _ i hi]
  interval_cases i <;> simp [unpack]

/-- Settles O31: flag by flag one way, bit by bit the other. -/
theorem packAfterUnpack : Obligations.PackAfterUnpack :=
  ⟨fun b => ⟨pack_unpack b, by rw [unpack_pack]⟩, unpack_pack⟩

/-! ### The pair views -/

@[simp] theorem State.readPair_writePair_same (s : State) (p : Pair) (v : Word) :
    (s.writePair p v).readPair p = v := by
  cases p <;> simp [State.writePair, State.readPair]

/-- No two pairs share a register (10_state.md R33). -/
theorem State.readPair_writePair_of_ne (s : State) {p q : Pair} (h : q ≠ p) (v : Word) :
    (s.writePair p v).readPair q = s.readPair q := by
  cases p <;> cases q <;> first | rfl | exact absurd rfl h

/-- A is in no pair (10_state.md R33). -/
theorem State.readReg_a_writePair (s : State) (p : Pair) (v : Word) : (s.writePair p v).readReg .a = s.readReg .a := by
  cases p <;> rfl

/-- Settles O32: the halves of a pair are the two registers themselves. -/
theorem pairViewsAreTheHalves : Obligations.PairViewsAreTheHalves := by
  refine ⟨fun s v => ⟨?_, ?_, ?_⟩, fun s v => ?_, fun s r q v => ⟨?_, fun h => ?_, ?_⟩,
    fun s p q v => ⟨?_, fun h => ?_, ?_⟩⟩
  · exact ⟨rfl, rfl, s.readPair_writePair_same .bc v⟩
  · exact ⟨rfl, rfl, s.readPair_writePair_same .de v⟩
  · exact ⟨rfl, rfl, s.readPair_writePair_same .hl v⟩
  · exact ⟨rfl, rfl, rfl, rfl, rfl, rfl⟩
  · exact s.readReg_writeReg_same r v
  · rw [s.readReg_writeReg, if_neg h]
  · exact s.writeReg_sp r v
  · exact s.readPair_writePair_same p v
  · exact s.readPair_writePair_of_ne h v
  · exact s.readReg_a_writePair p v

end Sys2Proof.Machine
end

section
/-! Memory as the bus shows it (20_memory.md R64, R93, R94): the canonical form is decided by what the reads return,
where an instruction's bytes are read, and what other agents' writes between two ticks do to LD r,(HL) and INC (HL). -/

namespace Sys2Proof.Machine

/-! ### Canonical memories that read alike -/

section
variable {filler v u : Byte} {j k lo : Nat} {rest : List Host.Cell}

theorem Memory.sorted_cons : Memory.sorted filler lo ((k, v) :: rest) = true ↔
    lo ≤ k ∧ k < 65536 ∧ v ≠ filler ∧ Memory.sorted filler (k + 1) rest = true := by
  simp only [Memory.sorted, Bool.and_eq_true, decide_eq_true_eq, bne_iff_ne, ne_eq, and_assoc]

theorem Memory.lookup_cons_same : Memory.lookup filler ((k, v) :: rest) k = v := if_pos rfl

theorem Memory.lookup_cons_of_ne (h : j ≠ k) :
    Memory.lookup filler ((j, v) :: rest) k = Memory.lookup filler rest k := if_neg h

/-- An address that does not read as filler is not below the first listed one. -/
theorem Memory.head_le_of_lookup (hs : Memory.sorted filler lo ((j, u) :: rest) = true) (hv : v ≠ filler)
    (hk : Memory.lookup filler ((j, u) :: rest) k = v) : j ≤ k := by
  by_contra hlt
  have sorted_from_head : Memory.sorted filler j ((j, u) :: rest) = true :=
    have ⟨_, bound, ne, tail⟩ := Memory.sorted_cons.1 hs
    Memory.sorted_cons.2 ⟨le_rfl, bound, ne, tail⟩
  exact hv (hk.symm.trans (Memory.lookup_below (by omega) sorted_from_head))

/-- Two canonical lists that read alike at every address are equal (log 4). -/
theorem Memory.eq_of_lookup_eq {filler : Byte} {cells cells' : List Host.Cell} {lo lo' : Nat}
    (hs : Memory.sorted filler lo cells = true) (hs' : Memory.sorted filler lo' cells' = true)
    (h : ∀ k < 65536, Memory.lookup filler cells k = Memory.lookup filler cells' k) : cells = cells' := by
  induction cells generalizing cells' lo lo' with
  | nil =>
    cases cells' with
    | nil => rfl
    | cons c' rest' =>
      obtain ⟨k, v⟩ := c'
      obtain ⟨-, hk, hv, -⟩ := Memory.sorted_cons.1 hs'
      exact absurd ((h k hk).trans Memory.lookup_cons_same).symm hv
  | cons c rest ih =>
    obtain ⟨j, u⟩ := c
    obtain ⟨-, hj, hu, hrest⟩ := Memory.sorted_cons.1 hs
    have at_j : u = Memory.lookup filler cells' j := Memory.lookup_cons_same.symm.trans (h j hj)
    cases cells' with
    | nil => exact absurd at_j hu
    | cons c' rest' =>
      obtain ⟨k, v⟩ := c'
      obtain ⟨-, hk, hv, hrest'⟩ := Memory.sorted_cons.1 hs'
      have at_k : Memory.lookup filler ((j, u) :: rest) k = v := (h k hk).trans Memory.lookup_cons_same
      obtain rfl : j = k := le_antisymm (Memory.head_le_of_lookup hs hv at_k)
        (Memory.head_le_of_lookup hs' hu at_j.symm)
      obtain rfl : u = v := at_j.trans Memory.lookup_cons_same
      have tails_alike (a : Nat) (ha : a < 65536) : Memory.lookup filler rest a = Memory.lookup filler rest' a := by
        by_cases hja : j = a
        · subst hja
          rw [Memory.lookup_below (Nat.lt_succ_self j) hrest, Memory.lookup_below (Nat.lt_succ_self j) hrest']
        · have := h a ha
          rwa [Memory.lookup_cons_of_ne hja, Memory.lookup_cons_of_ne hja] at this
      rw [ih hrest hrest' tails_alike]

end

/-- The reads and the filler decide a canonical memory (20_memory.md R70; log 4). -/
theorem Memory.eq_of_read_eq {m n : Memory} (hm : m.wf = true) (hn : n.wf = true) (hf : m.filler = n.filler)
    (h : ∀ a, m.read a = n.read a) : m = n := by
  obtain ⟨filler, cells⟩ := m
  obtain ⟨_, cells'⟩ := n
  obtain rfl : filler = _ := hf
  have lookup_eq (k : Nat) (hk : k < 65536) : Memory.lookup filler cells k = Memory.lookup filler cells' k := by
    simpa [Memory.read, Nat.mod_eq_of_lt hk] using h (BitVec.ofNat 16 k)
  exact congrArg (Memory.mk filler) (Memory.eq_of_lookup_eq hm hn lookup_eq)

/-- A write is read back (20_memory.md R93). -/
theorem Memory.read_write_same {m : Memory} (h : m.wf = true) (a : Word) (v : Byte) : (m.write a v).read a = v := by
  rw [Memory.read_write h, if_pos rfl]

/-- Settles O60. -/
theorem memoryReadsLastWrite : Obligations.MemoryReadsLastWrite := by
  refine ⟨fun m a b v h => ⟨Memory.read_write_same h a v, fun hb => ?_, Memory.wf_write h a v⟩,
    fun m n => Memory.eq_of_read_eq⟩
  rw [Memory.read_write h, if_neg hb]

/-! ### Where an instruction's bytes are read (20_memory.md R96, 40_sequencer.md R170) -/

section
variable (s : State) (k : Nat)

theorem State.byteAddress_zero : s.byteAddress 0 = s.pc := by
  simp [State.byteAddress]

variable {s}

theorem State.byteAddress_of_ordinary (h : s.haltBug = false) : s.byteAddress k = s.pc + BitVec.ofNat 16 k := by
  simp [State.byteAddress, h]

/-- Under the halt glitch every byte after the opcode is read one address early. -/
theorem State.byteAddress_succ_of_glitch (h : s.haltBug = true) :
    s.byteAddress (k + 1) = s.pc + BitVec.ofNat 16 k := by
  simp [State.byteAddress, h]

/-- With no other agent writing, every byte is read in memory as it stands. -/
theorem State.instrByte_undisturbed (h : s.Undisturbed) : s.instrByte k = s.mem.read (s.byteAddress k) := by
  rw [State.instrByte, State.memAt_undisturbed h]

end

/-- Settles O6. -/
theorem fetchReadsMemoryAtPC : Obligations.FetchReadsMemoryAtPC := by
  intro s k h
  refine ⟨fun ordinary => ?_, fun glitch => ⟨?_, ?_⟩⟩
  · rw [State.instrByte_undisturbed k h, State.byteAddress_of_ordinary k ordinary]
  · rw [State.instrByte_undisturbed 0 h, State.byteAddress_zero]
  · rw [State.instrByte_undisturbed (k + 1) h, State.byteAddress_succ_of_glitch k glitch]

/-! ### A run with other agents' writes (20_memory.md R84, R94) -/

section
variable (g : Option Byte) (s : State) (bytes : List Byte)

/-- A cycle is its quiet form on the bus side as the tick finds it. -/
theorem Cycle.run_eq_quiet (c : Cycle) : c.run g s = c.quiet g s.beginTick := rfl

/-- The last cycle of a table completes the sequence. -/
theorem runTable_last (c : Cycle) : runTable bytes [c] s =
    ((c.quiet (if c.op.takesByte then bytes.head? else none) s.beginTick).complete s.input).popInput := by
  have ends (g : Option Byte) : c.ends g ([] : List Cycle).isEmpty s = true := by simp [Cycle.ends]
  rw [runTable_ends s bytes [] rfl (ends _), Cycle.tick_ends _ s (ends _), Cycle.run_eq_quiet]

/-- A cycle before the last: one tick, then the rest. -/
theorem runTable_cons_cons {c : Cycle} (hc : c.stops = neverStops) (c' : Cycle) (rest : List Cycle) :
    runTable bytes (c :: c' :: rest) s = runTable (if c.op.takesByte then bytes.tail else bytes) (c' :: rest)
      (c.quiet (if c.op.takesByte then bytes.head? else none) s.beginTick).advance.popInput := by
  have goes_on (g : Option Byte) : c.ends g (c' :: rest).isEmpty s = false := Cycle.ends_neverStops g s hc
  rw [runTable_goes_on s bytes _ rfl (goes_on _), Cycle.tick_goes_on _ s (goes_on _), Cycle.run_eq_quiet]

end

section
variable {s : State} {i0 i1 i2 : TickIn} {later : List TickIn}

/-- LD r,(HL) loads what its second tick finds in memory. -/
theorem readReg_exec_ldRM (r : Reg) (h : s.inputs = i0 :: i1 :: later) :
    ∃ t, exec (.ldRM r) s = .next t ∧ t.readReg r = ((s.mem.writeAll i0.others).writeAll i1.others).read s.hl := by
  refine ⟨_, exec_eq_runInstr s nofun, ?_⟩
  have table : cyclesOf (.ldRM r) = [c0, cRead State.hl (fun b s => s.writeReg r b)] := rfl
  rw [table, runTable_cons_cons _ _ rfl, runTable_last]
  simp [encode, State.input, h]

/-- INC (HL) writes one more than its second tick read, whatever its third tick finds in memory. -/
theorem read_hl_exec_incM (hwf : s.mem.wf = true) (h : s.inputs = i0 :: i1 :: i2 :: later) :
    ∃ t, exec .incM s = .next t ∧
      t.mem.read s.hl = ((s.mem.writeAll i0.others).writeAll i1.others).read s.hl + 1#8 := by
  refine ⟨_, exec_eq_runInstr s nofun, ?_⟩
  have table : cyclesOf .incM = c0 :: modifyHL inc8 := rfl
  have found_wf : (((s.mem.writeAll i0.others).writeAll i1.others).writeAll i2.others).wf = true :=
    Memory.wf_writeAll (Memory.wf_writeAll (Memory.wf_writeAll hwf _) _) _
  rw [table, modifyHL, runTable_cons_cons _ _ rfl, runTable_cons_cons _ _ rfl, runTable_last]
  simpa [encode, State.input, h, inc8] using Memory.read_write_same found_wf s.hl _

end

/-- Settles O30: a run takes each tick's writes in when the tick begins. -/
theorem otherAgentsBetweenTicks : Obligations.OtherAgentsBetweenTicks :=
  ⟨fun _ r _ _ _ h => readReg_exec_ldRM r h, fun _ _ _ _ _ _ hwf h _ => read_hl_exec_incM hwf h⟩

end Sys2Proof.Machine
end

section
/-! The lines RESET and HALT_LINE in the middle of a sequence (20_memory.md R62, 40_sequencer.md R164, R166, R174): no
cycle looks at them, so a tick there does not. -/

namespace Sys2Proof.Machine

/-! ### Another sample for this tick -/

/-- The sample with other values on the lines RESET and HALT_LINE. -/
def TickIn.withLines (i : TickIn) (x y : Bool) : TickIn := { i with reset := x, haltLine := y }

/-- `s` with the sample `j` for this tick. -/
def State.withSample (s : State) (j : TickIn) : State := s.withRun (j :: s.inputs.tail) s.log

section
variable (s : State) (j : TickIn)

@[simp] theorem State.input_withSample : (s.withSample j).input = j := rfl
@[simp] theorem State.popInput_withSample : (s.withSample j).popInput = s.popInput := rfl
@[simp] theorem State.advance_withSample : (s.withSample j).advance = s.advance.withSample j := rfl

@[simp] theorem State.complete_withSample (inp : TickIn) :
    (s.withSample j).complete inp = (s.complete inp).withSample j := by
  simp [State.withSample]

/-- Completion looks at IRQ_PENDING alone (40_sequencer.md R176). -/
@[simp] theorem State.complete_withLines (inp : TickIn) (x y : Bool) :
    s.complete (inp.withLines x y) = s.complete inp := rfl

theorem State.beginTick_withSample (h : j.others = s.input.others) :
    (s.withSample j).beginTick = s.beginTick.withSample j := by
  simp only [State.beginTick, State.input_withSample, h]; rfl

end

/-! ### One cycle -/

/-- A blind update does the same with another sample. -/
theorem BlindUpdate.withSample {act : State → State} (h : BlindUpdate act) (s : State) (j : TickIn) :
    act (s.withSample j) = (act s).withSample j := by
  have act_eq : act s = (act s).withRun s.inputs s.log := h s s.inputs s.log
  rw [State.withSample, h, State.withSample, congrArg State.inputs act_eq, congrArg State.log act_eq]
  rfl

/-- A blind bus operation does the same with another sample. -/
theorem BusOp.Blind.perform_withSample {op : BusOp} (h : op.Blind) (inp : TickIn) (g : Option Byte) (s : State)
    (j : TickIn) :
    op.perform inp g (s.withSample j) = ((op.perform inp g s).1.withSample j, (op.perform inp g s).2) := by
  obtain ⟨b, hb⟩ := h.perform inp g s
  have perform_eq : op.perform inp g s = ((op.perform inp g s).1.withRun s.inputs (b :: s.log), _) :=
    hb s.inputs s.log
  have inputs_eq : (op.perform inp g s).1.inputs = s.inputs := congrArg (fun r => r.1.inputs) perform_eq
  have log_eq : (op.perform inp g s).1.log = b :: s.log := congrArg (fun r => r.1.log) perform_eq
  rw [State.withSample, hb, State.withSample, inputs_eq, log_eq]

/-- No bus operation looks at the lines; the acknowledge cycle looks at IE and IF (60_exceptions.md R417). -/
theorem BusOp.perform_withLines (op : BusOp) (i : TickIn) (x y : Bool) (g : Option Byte) (s : State) :
    op.perform (i.withLines x y) g s = op.perform i g s := by
  cases op <;> rfl

/-- The cycle with its actions given other values of the lines. -/
def Cycle.withLines (x y : Bool) (c : Cycle) : Cycle := { c with act := fun i => c.act (i.withLines x y) }

/-- The actions of no row look at the lines; HALT's look at IRQ_PENDING (46_system.md R331). -/
theorem cyclesOf_withLines (x y : Bool) (i : Instr) : (cyclesOf i).map (Cycle.withLines x y) = cyclesOf i := by
  cases i <;> rfl

/-- The vector of the service sequence comes from IE and IF (60_exceptions.md R423). -/
theorem serviceCycles_withLines (x y : Bool) : serviceCycles.map (Cycle.withLines x y) = serviceCycles := rfl

/-- What is left of a sequence in progress does not look at the lines. -/
theorem remaining_withLines (x y : Bool) (s : State) : s.remaining.map (Cycle.withLines x y) = s.remaining := by
  simp only [State.remaining]
  split
  · rfl
  · rw [List.map_drop, cyclesOf_withLines]
  · rw [List.map_drop, serviceCycles_withLines]

theorem withLines_of_mem_remaining {s : State} {c : Cycle} (hc : c ∈ s.remaining) (x y : Bool) :
    c.withLines x y = c :=
  List.map_inj_left.1 ((remaining_withLines x y s).trans (List.map_id _).symm) c hc

section
variable {c : Cycle} (hb : c.Blind) {x y : Bool} (hl : c.withLines x y = c) (g : Option Byte) (s : State)
include hb hl

theorem Cycle.Blind.run_withLines :
    c.run g (s.withSample (s.input.withLines x y)) = (c.run g s).withSample (s.input.withLines x y) := by
  obtain ⟨hop, hact, -⟩ := hb
  have act_withLines (b : Byte) (t : State) : c.act (s.input.withLines x y) b t = c.act s.input b t :=
    congrArg (fun c' => c'.act s.input b t) hl
  simp only [Cycle.run, State.input_withSample, s.beginTick_withSample (s.input.withLines x y) rfl,
    BusOp.perform_withLines, hop.perform_withSample, act_withLines, (hact _ _).withSample]

/-- A tick uses its sample up, so nothing of the lines is left (20_memory.md R68). -/
theorem Cycle.Blind.tick_withLines (last : Bool) :
    c.tick g last (s.withSample (s.input.withLines x y)) = c.tick g last s := by
  have run_eq := hb.run_withLines hl g s
  obtain ⟨-, -, stops_withRun⟩ := hb
  have ends_eq : c.ends g last (s.withSample (s.input.withLines x y)) = c.ends g last s := by
    rw [Cycle.ends, run_eq, State.withSample, stops_withRun, Cycle.ends]
  cases he : c.ends g last s with
  | true =>
    rw [Cycle.tick_ends g _ (ends_eq.trans he), Cycle.tick_ends g s he, run_eq, State.input_withSample,
      State.complete_withLines, State.complete_withSample, State.popInput_withSample]
  | false =>
    rw [Cycle.tick_goes_on g _ (ends_eq.trans he), Cycle.tick_goes_on g s he, run_eq, State.advance_withSample,
      State.popInput_withSample]

end

/-! ### One tick -/

/-- What is left of a sequence is found with the other agents' writes of this tick alone. -/
theorem remaining_withSample (s : State) (x y : Bool) :
    (s.withSample (s.input.withLines x y)).remaining = s.remaining := rfl

theorem idleTick_withSample (s : State) (x y : Bool) :
    (s.withSample (s.input.withLines x y)).idleTick = s.idleTick := rfl

/-- The next cycle of a sequence in progress does not depend on the lines. -/
theorem tickSequence_withLines (s : State) (x y : Bool) :
    (s.withSample (s.input.withLines x y)).tickSequence = s.tickSequence := by
  simp only [State.tickSequence, remaining_withSample]
  cases hr : s.remaining with
  | nil => rfl
  | cons c rest =>
    have hc : c ∈ s.remaining := hr ▸ List.mem_cons_self ..
    exact congrArg _ ((blind_of_mem_remaining hc).tick_withLines (withLines_of_mem_remaining hc x y) none s _)

/-- In the middle of a sequence the case of a tick is chosen by `locked` and the cycle index
(40_sequencer.md R163, R174). -/
theorem tick_inside {s : State} (hm : s.seq.mode ≠ .boundary) : tick s =
    if s.locked then .next s.idleTick
    else if s.seq.step = 0#3 then .refused .noSuchCycle else s.tickSequence := by
  have case_inside : s.tickCase = if s.locked then .locked else .goOn := by simp [State.tickCase, hm]
  rw [tick, case_inside]
  cases s.locked <;> rfl

theorem tick_withLines {s : State} (hm : s.seq.mode ≠ .boundary) (x y : Bool) :
    tick (s.withSample (s.input.withLines x y)) = tick s := by
  have hm' : (s.withSample (s.input.withLines x y)).seq.mode ≠ .boundary := hm
  rw [tick_inside hm', tick_inside hm, tickSequence_withLines, idleTick_withSample]
  rfl

/-- Settles O17. -/
theorem resetAndHoldIgnoredInsideSequences : Obligations.ResetAndHoldIgnoredInsideSequences :=
  fun s i later x y hm => tick_withLines (s := { s with inputs := i :: later }) hm x y

end Sys2Proof.Machine
end

section
/-! The opcode bytes and the codes in them (30_encoding.md R111 to R115): every byte is its three fields, every code is
its operand's. -/

namespace Sys2Proof

/-! ### Fields (30_encoding.md R111) -/

theorem Oct.number_lt (y : Oct) : y.number < 8 := by cases y <;> decide

theorem Quad.number_lt (x : Quad) : x.number < 4 := by cases x <;> decide

theorem octOf_eq_of_mod {n : Nat} {y : Oct} (h : n % 8 = y.number) : octOf n = y := by
  rw [octOf, h]
  cases y <;> rfl

theorem number_octOf (n : Nat) : (octOf n).number = n % 8 := by
  have residue_lt : n % 8 < 8 := Nat.mod_lt n (by decide)
  rw [octOf]
  interval_cases n % 8 <;> rfl

theorem fieldX_eq_of_div {op : Byte} {x : Quad} (h : op.toNat / 64 = x.number) : fieldX op = x := by
  rw [fieldX, h]
  cases x <;> rfl

theorem number_fieldX (op : Byte) : (fieldX op).number = op.toNat / 64 := by
  have quotient_lt : op.toNat / 64 < 4 := by omega
  rw [fieldX]
  interval_cases op.toNat / 64 <;> rfl

section
variable (x x' : Quad) (y y' z z' : Oct)

theorem toNat_opcodeByte : (opcodeByte x y z).toNat = 64 * x.number + 8 * y.number + z.number := by
  have := x.number_lt
  have := y.number_lt
  have := z.number_lt
  rw [opcodeByte, BitVec.toNat_ofNat]
  omega

@[simp] theorem fieldX_opcodeByte : fieldX (opcodeByte x y z) = x :=
  fieldX_eq_of_div (by have := y.number_lt; have := z.number_lt; rw [toNat_opcodeByte]; omega)

@[simp] theorem fieldY_opcodeByte : fieldY (opcodeByte x y z) = y :=
  octOf_eq_of_mod (by have := y.number_lt; have := z.number_lt; rw [toNat_opcodeByte]; omega)

@[simp] theorem fieldZ_opcodeByte : fieldZ (opcodeByte x y z) = z :=
  octOf_eq_of_mod (by have := z.number_lt; rw [toNat_opcodeByte]; omega)

variable {x x' y y' z z'}

theorem opcodeByte_inj : opcodeByte x y z = opcodeByte x' y' z' ↔ x = x' ∧ y = y' ∧ z = z' := by
  refine ⟨fun h => ⟨?_, ?_, ?_⟩, fun ⟨hx, hy, hz⟩ => by rw [hx, hy, hz]⟩
  · simpa using congrArg fieldX h
  · simpa using congrArg fieldY h
  · simpa using congrArg fieldZ h

/-- 0xCB stands in the cell x = 3, y = 1, z = 3 of the primary table (30_encoding.md R120). -/
@[simp] theorem opcodeByte_eq_prefixValue :
    opcodeByte x y z = Config.prefixValue ↔ x = .q3 ∧ y = .o1 ∧ z = .o3 :=
  opcodeByte_inj (x' := .q3) (y' := .o1) (z' := .o3)

end

/-- A byte is no more than its three fields. -/
theorem opcodeByte_fields (op : Byte) : opcodeByte (fieldX op) (fieldY op) (fieldZ op) = op := by
  apply BitVec.eq_of_toNat_eq
  rw [toNat_opcodeByte, number_fieldX, fieldY, fieldZ, number_octOf, number_octOf]
  omega

theorem exists_opcodeByte (op : Byte) : ∃ x y z, op = opcodeByte x y z := ⟨_, _, _, (opcodeByte_fields op).symm⟩

@[simp] theorem splitPQ_joinPQ (p : Quad) (q : Bool) : splitPQ (joinPQ p q) = (p, q) := by cases p <;> cases q <;> rfl

/-! ### Operand codes (30_encoding.md R113 to R115) -/

@[simp] theorem Reg.ofCode_code (r : Reg) : Reg.ofCode r.code = some r := by cases r <;> rfl

@[simp] theorem Reg.ofCode_o6 : Reg.ofCode .o6 = none := rfl

@[simp] theorem Pair.ofCode_code (pp : Pair) : Pair.ofCode pp.code = pp := by cases pp <;> rfl

@[simp] theorem PairQ.ofCode_code (qq : PairQ) : PairQ.ofCode qq.code = some qq := by cases qq <;> rfl

@[simp] theorem Cond.ofCode_code (cc : Cond) : Cond.ofCode cc.code = cc := by cases cc <;> rfl

/-- Code 6 alone is no register (30_encoding.md R113). -/
theorem Oct.eq_regCode_or (y : Oct) : (∃ r : Reg, y = r.code) ∨ y = .o6 := by
  cases y with
  | o0 => exact .inl ⟨.b, rfl⟩
  | o1 => exact .inl ⟨.c, rfl⟩
  | o2 => exact .inl ⟨.d, rfl⟩
  | o3 => exact .inl ⟨.e, rfl⟩
  | o4 => exact .inl ⟨.h, rfl⟩
  | o5 => exact .inl ⟨.l, rfl⟩
  | o6 => exact .inr rfl
  | o7 => exact .inl ⟨.a, rfl⟩

/-- Code 3 alone is no pair of PUSH qq and POP qq (30_encoding.md R114). -/
theorem Quad.eq_pairQCode_or (p : Quad) : (∃ qq : PairQ, p = qq.code) ∨ p = .q3 := by
  cases p with
  | q0 => exact .inl ⟨.bc, rfl⟩
  | q1 => exact .inl ⟨.de, rfl⟩
  | q2 => exact .inl ⟨.hl, rfl⟩
  | q3 => exact .inr rfl

theorem Quad.exists_pairCode (p : Quad) : ∃ pp : Pair, p = pp.code :=
  ⟨Pair.ofCode p, by cases p <;> rfl⟩

theorem Oct.exists_condCode (y : Oct) : ∃ cc : Cond, y = cc.code :=
  ⟨Cond.ofCode y, by cases y <;> rfl⟩

theorem Oct.exists_joinPQ (y : Oct) : ∃ p q, y = joinPQ p q :=
  ⟨(splitPQ y).1, (splitPQ y).2, by cases y <;> rfl⟩

end Sys2Proof
end

section
/-! Decoding and encoding undo each other (30_encoding.md R110, R118 to R124): first cell by cell of the two opcode
tables, then for lists of bytes. -/

namespace Sys2Proof

/-! ### Lengths (30_encoding.md R110) -/

theorem length_encode (i : Instr) : (encode i).length = i.length := by cases i <;> rfl

theorem Instr.length_pos (i : Instr) : 0 < i.length := by cases i <;> simp [Instr.length]

theorem Instr.length_le_three (i : Instr) : i.length ≤ 3 := by cases i <;> simp [Instr.length]

/-! ### The cells of the tables -/

section
variable (y z : Oct) (b1 b2 : Byte)

theorem encode_decodeBlock0 : encode (decodeBlock0 y z b1 b2) =
    [opcodeByte .q0 y z, b1, b2].take (decodeBlock0 y z b1 b2).length := by
  cases z with
  | o0 | o2 => cases y <;> simp [decodeBlock0, encode, Instr.length]
  | o1 | o3 =>
    obtain ⟨p, q, rfl⟩ := y.exists_joinPQ
    obtain ⟨pp, rfl⟩ := p.exists_pairCode
    cases q <;> simp [decodeBlock0, encode, Instr.length]
  | o4 | o5 | o6 =>
    obtain ⟨r, rfl⟩ | rfl := y.eq_regCode_or
    · simp [decodeBlock0, encode, Instr.length]
    · rfl
  | o7 =>
    obtain ⟨cc, rfl⟩ := y.exists_condCode
    simp [decodeBlock0, encode, Instr.length]

theorem encode_decodeBlock1 : encode (decodeBlock1 y z) = [opcodeByte .q1 y z] := by
  obtain ⟨dst, rfl⟩ | rfl := y.eq_regCode_or <;> obtain ⟨src, rfl⟩ | rfl := z.eq_regCode_or
  all_goals simp [decodeBlock1, encode]

theorem encode_decodeBlock2 : encode (decodeBlock2 y z) = [opcodeByte .q2 y z] := by
  obtain ⟨r, rfl⟩ | rfl := z.eq_regCode_or
  · cases y <;> simp [decodeBlock2, encode]
  · cases y <;> rfl

theorem encode_decodeBlock3 : encode (decodeBlock3 y z b1 b2) =
    [opcodeByte .q3 y z, b1, b2].take (decodeBlock3 y z b1 b2).length := by
  cases z with
  | o0 | o2 | o4 =>
    obtain ⟨cc, rfl⟩ := y.exists_condCode
    simp [decodeBlock3, encode, Instr.length]
  | o1 | o5 =>
    obtain ⟨p, q, rfl⟩ := y.exists_joinPQ
    cases q with
    | true => cases p <;> simp [decodeBlock3, encode, Instr.length, splitPQ, joinPQ]
    | false =>
      obtain ⟨qq, rfl⟩ | rfl := p.eq_pairQCode_or
      · simp [decodeBlock3, encode, Instr.length]
      · rfl
  | o3 | o6 => cases y <;> simp [decodeBlock3, encode, Instr.length]
  | o7 => rfl

/-- Field x of the opcode byte chooses the block (30_encoding.md R121). -/
@[simp] theorem decodePrimary_q0 : decodePrimary (opcodeByte .q0 y z) b1 b2 = decodeBlock0 y z b1 b2 := by
  simp [decodePrimary]

@[simp] theorem decodePrimary_q1 : decodePrimary (opcodeByte .q1 y z) b1 b2 = decodeBlock1 y z := by
  simp [decodePrimary]

@[simp] theorem decodePrimary_q2 : decodePrimary (opcodeByte .q2 y z) b1 b2 = decodeBlock2 y z := by
  simp [decodePrimary]

@[simp] theorem decodePrimary_q3 : decodePrimary (opcodeByte .q3 y z) b1 b2 = decodeBlock3 y z b1 b2 := by
  simp [decodePrimary]

end

theorem encode_decodePrimary (op b1 b2 : Byte) : encode (decodePrimary op b1 b2) =
    [op, b1, b2].take (decodePrimary op b1 b2).length := by
  obtain ⟨x, y, z, rfl⟩ := exists_opcodeByte op
  cases x with
  | q0 => rw [decodePrimary_q0, encode_decodeBlock0]
  | q1 => rw [decodePrimary_q1, ← length_encode, encode_decodeBlock1]; rfl
  | q2 => rw [decodePrimary_q2, ← length_encode, encode_decodeBlock2]; rfl
  | q3 => rw [decodePrimary_q3, encode_decodeBlock3]

theorem encode_decodePrefixed (op : Byte) : encode (decodePrefixed op) = [Config.prefixValue, op] := by
  obtain ⟨x, y, z, rfl⟩ := exists_opcodeByte op
  obtain ⟨r, rfl⟩ | rfl := z.eq_regCode_or
  · cases x with
    | q0 => cases y <;> simp [decodePrefixed, encode]
    | q1 | q2 | q3 => simp [decodePrefixed, encode]
  · cases x with
    | q0 => cases y <;> simp [decodePrefixed, encode]
    | q1 | q2 | q3 => simp [decodePrefixed, encode]

theorem decodeAt_prefixed (b1 b2 : Byte) : decodeAt Config.prefixValue b1 b2 = decodePrefixed b1 := if_pos rfl

theorem decodeAt_primary {b0 : Byte} (h : b0 ≠ Config.prefixValue) (b1 b2 : Byte) :
    decodeAt b0 b1 b2 = decodePrimary b0 b1 b2 := if_neg h

/-- In the primary table the opcode byte alone decides the length: in no cell do the operand bytes choose the row. -/
theorem length_decodePrimary (op b1 b2 : Byte) :
    (decodePrimary op b1 b2).length = (decodePrimary op 0 0).length := by
  obtain ⟨x, y, z, rfl⟩ := exists_opcodeByte op
  cases x with
  | q0 =>
    rw [decodePrimary_q0, decodePrimary_q0]
    cases z <;> cases y <;> rfl
  | q1 => rw [decodePrimary_q1, decodePrimary_q1]
  | q2 => rw [decodePrimary_q2, decodePrimary_q2]
  | q3 =>
    rw [decodePrimary_q3, decodePrimary_q3]
    cases z <;> cases y <;> rfl

theorem length_decodePrefixed (op : Byte) : (decodePrefixed op).length = 2 := by
  rw [← length_encode, encode_decodePrefixed]
  rfl

/-- The length is known after byte 0 (30_encoding.md R110). -/
theorem length_decodeAt (b0 b1 b2 : Byte) : (decodeAt b0 b1 b2).length = lengthOf b0 := by
  rw [lengthOf]
  by_cases h : b0 = Config.prefixValue
  · rw [h, decodeAt_prefixed, decodeAt_prefixed, length_decodePrefixed, length_decodePrefixed]
  · rw [decodeAt_primary h, decodeAt_primary h, length_decodePrimary]

theorem encode_decodeAt (b0 b1 b2 : Byte) :
    encode (decodeAt b0 b1 b2) = [b0, b1, b2].take (decodeAt b0 b1 b2).length := by
  by_cases h : b0 = Config.prefixValue
  · rw [h, decodeAt_prefixed, encode_decodePrefixed, length_decodePrefixed]
    rfl
  · rw [decodeAt_primary h, encode_decodePrimary]

theorem decodePrefixed_complete (op : Byte) : WellFormed (decodePrefixed op) = true := by
  have two_bytes := length_decodePrefixed op
  refine bne_iff_ne.2 fun h => ?_
  simp [h, Instr.length] at two_bytes

/-- The decoder never gives the row PREFIX: 0xCB selects in the prefixed table (30_encoding.md R120; log 7). -/
theorem decodeAt_complete (b0 b1 b2 : Byte) : WellFormed (decodeAt b0 b1 b2) = true := by
  by_cases h : b0 = Config.prefixValue
  · rw [h, decodeAt_prefixed]
    exact decodePrefixed_complete b1
  · refine bne_iff_ne.2 fun is_prefixByte => h ?_
    have one_byte := encode_decodeAt b0 b1 b2
    rw [is_prefixByte] at one_byte
    exact (List.cons.inj one_byte).1.symm

/-! ### Lists of bytes -/

/-- The instruction that a list of bytes begins, its missing bytes read as 0. -/
def firstInstr (bytes : List Byte) : Instr := decodeAt (bytes.getD 0 0) (bytes.getD 1 0) (bytes.getD 2 0)

/-- The decoder accepts a list that is long enough for the instruction it begins. -/
theorem decode_eq_ok {bytes : List Byte} (h : (firstInstr bytes).length ≤ bytes.length) :
    decode bytes = .ok (firstInstr bytes, bytes.drop (firstInstr bytes).length) := by
  have length_pos := (firstInstr bytes).length_pos
  cases bytes with
  | nil => exact absurd h length_pos.not_ge
  | cons b0 rest =>
    have length_eq : (firstInstr (b0 :: rest)).length = lengthOf b0 := length_decodeAt ..
    rw [length_eq] at h length_pos ⊢
    obtain ⟨n, hn⟩ : ∃ n, lengthOf b0 = n + 1 := ⟨_, (Nat.succ_pred_eq_of_pos length_pos).symm⟩
    rw [decode, if_neg (by simpa using h), hn]
    rfl

theorem decode_three_or_more (b0 b1 b2 : Byte) (rest : List Byte) : decode (b0 :: b1 :: b2 :: rest) =
    .ok (decodeAt b0 b1 b2, (b0 :: b1 :: b2 :: rest).drop (decodeAt b0 b1 b2).length) :=
  decode_eq_ok ((decodeAt b0 b1 b2).length_le_three.trans (by simp))

/-- Settles O2. -/
theorem encodeInvertsDecode : Obligations.EncodeInvertsDecode := by
  intro b0 b1 b2 rest
  refine ⟨_, _, decode_three_or_more b0 b1 b2 rest, decodeAt_complete b0 b1 b2, ?_⟩
  have encode_eq : encode (decodeAt b0 b1 b2) = (b0 :: b1 :: b2 :: rest).take (decodeAt b0 b1 b2).length := by
    rw [encode_decodeAt, ← List.take_append_of_le_length (l₂ := rest) (decodeAt b0 b1 b2).length_le_three]
    rfl
  rw [encode_eq, List.take_append_drop]

section
variable (y z : Oct) (op : Byte) (rest : List Byte)

theorem firstInstr_prefixed : firstInstr (Config.prefixValue :: op :: rest) = decodePrefixed op := decodeAt_prefixed ..

/-- Field x of the first byte chooses the block (30_encoding.md R121). -/
theorem firstInstr_block0 : firstInstr (opcodeByte .q0 y z :: rest) =
    decodeBlock0 y z (rest.getD 0 0) (rest.getD 1 0) := by
  simp [firstInstr, decodeAt]

theorem firstInstr_block1 : firstInstr (opcodeByte .q1 y z :: rest) = decodeBlock1 y z := by
  simp [firstInstr, decodeAt]

theorem firstInstr_block2 : firstInstr (opcodeByte .q2 y z :: rest) = decodeBlock2 y z := by
  simp [firstInstr, decodeAt]

/-- The one cell of block 3 that is no instruction is 0xCB (30_encoding.md R120). -/
theorem firstInstr_block3 (h : ¬(y = .o1 ∧ z = .o3)) : firstInstr (opcodeByte .q3 y z :: rest) =
    decodeBlock3 y z (rest.getD 0 0) (rest.getD 1 0) := by
  simp [firstInstr, decodeAt, h]

end

/-- Each row's bytes lead to the cell it was encoded from, whatever follows them (30_encoding.md R121, R122). -/
theorem firstInstr_encode {i : Instr} (h : WellFormed i = true) (rest : List Byte) :
    firstInstr (encode i ++ rest) = i := by
  cases i
  case prefixByte => exact absurd h (by decide)
  case popAf | ret | reti | jpHl | ldSpHl | pushAf | call | undLockDD | undLockED | undLockFD =>
    simp [encode, firstInstr_block3, decodeBlock3, splitPQ, PairQ.ofCode]
  all_goals
    simp [encode, firstInstr_prefixed, firstInstr_block0, firstInstr_block1, firstInstr_block2, firstInstr_block3,
      decodePrefixed, decodeBlock0, decodeBlock1, decodeBlock2, decodeBlock3]

theorem decode_encode {i : Instr} (h : WellFormed i = true) (rest : List Byte) :
    decode (encode i ++ rest) = .ok (i, rest) := by
  have long_enough : (firstInstr (encode i ++ rest)).length ≤ (encode i ++ rest).length := by
    rw [firstInstr_encode h, ← length_encode, List.length_append]
    exact Nat.le_add_right ..
  rw [decode_eq_ok long_enough, firstInstr_encode h, ← length_encode, List.drop_left]

/-- Settles O1. -/
theorem decodeInvertsEncode : Obligations.DecodeInvertsEncode := fun _ rest h => decode_encode h rest

/-- Settles O3: each string is the encoding of its instruction. -/
theorem specWordsDecode : Obligations.SpecWordsDecode :=
  ⟨decode_encode (i := .ldRR .a .b) rfl [],
   decode_encode (i := .ldAHld 0xFD#8) rfl [],
   decode_encode (i := .adcAN 0xC6#8) rfl [],
   decode_encode (i := .ldPpNn .sp 0xFFFE#16) rfl [],
   decode_encode (i := .addHlPp .bc) rfl [],
   decode_encode (i := .call 0x0010#16) rfl [],
   decode_encode (i := .swi) rfl [],
   decode_encode (i := .undAliasD3) rfl [],
   decode_encode (i := .setR .o1 .e) rfl []⟩

end Sys2Proof
end

section
/-! What the machine does with what was decoded: the row PREFIX, signed displacements, and an instruction placed at PC
(30_encoding.md R117, R120, R137; logs 7, 11). -/

namespace Sys2Proof.Machine

/-! ### The row PREFIX (30_encoding.md R120, R122) -/

/-- A prefixed instruction runs on its two bytes (47_prefixed.md R360). -/
theorem exec_decodePrefixed (op : Byte) (s : State) : exec (decodePrefixed op) s =
    .next (runTable [Config.prefixValue, op] (cyclesOf (decodePrefixed op)) s.startInstr) := by
  rw [exec_eq_runInstr s (bne_iff_ne.1 (decodePrefixed_complete op)), encode_decodePrefixed]

/-- Settles O59. -/
theorem prefixByteRunsPrefixedInstruction : Obligations.PrefixByteRunsPrefixedInstruction :=
  fun s => ⟨_, exec_prefixByte s, exec_decodePrefixed _ s, decodePrefixed_complete _⟩

/-! ### Signed displacements (30_encoding.md R117, R137) -/

theorem toInt_sext16 (d : Byte) : (sext16 d).toInt = d.toInt :=
  BitVec.toInt_signExtend_of_le (by decide)

theorem indexedAddress_eq_ofInt (a : Word) (d : Byte) :
    indexedAddress a d = BitVec.ofInt 16 ((a.toNat : Int) + d.toInt) := by
  rw [indexedAddress, BitVec.ofInt_add, BitVec.ofInt_natCast, BitVec.ofNat_toNat, BitVec.setWidth_eq, ← toInt_sext16,
    BitVec.ofInt_toInt]

/-- Settles O41. -/
theorem signedOffsetsWrap : Obligations.SignedOffsetsWrap :=
  fun a d => ⟨indexedAddress_eq_ofInt a d, toInt_sext16 d, d.le_toInt, Int.le_of_lt_add_one d.toInt_lt⟩

/-! ### An instruction placed at PC (log 11) -/

/-- The bus side stays as it is as long as no other agent writes (20_memory.md R94). -/
theorem State.memAt_of_no_others {s : State} {k : Nat} (h : ∀ j ≤ k, (s.sampleAt j).others = []) :
    s.memAt k = s.mem := by
  induction k generalizing s with
  | zero =>
    have now : s.input.others = [] := h 0 le_rfl
    simp [State.memAt, State.beginTick, now]
  | succ k ih =>
    have now : s.input.others = [] := h 0 (Nat.zero_le _)
    have later : ∀ j ≤ k, (s.beginTick.popInput.sampleAt j).others = [] := fun j hj => by
      rw [State.sampleAt_of_inputs (s := s) (n := 1) (by simp), Nat.add_comm]
      exact h (j + 1) (by omega)
    rw [State.memAt, ih later]
    simp [State.beginTick, now]

/-- The first `n` samples are calm, those past the end of the list included (log 2). -/
theorem calmInputs_sample {ins : List TickIn} {n k : Nat} (hk : k < n) :
    let inp := ((calmInputs n ins).drop k).headD TickIn.quiet
    inp.reset = false ∧ inp.haltLine = false ∧ inp.others = [] := by
  induction n generalizing ins k with
  | zero => omega
  | succ n ih =>
    cases ins with
    | nil => simp [calmInputs, TickIn.quiet]
    | cons i ins =>
      cases k with
      | zero => exact ⟨rfl, rfl, rfl⟩
      | succ k => exact ih (ins := ins) (k := k) (by omega)

section
variable (s : State) (nbits w : Nat)

theorem State.withFetchWord_calm {k : Nat} (hk : k < 3) :
    let inp := (s.withFetchWord nbits w).sampleAt k
    inp.reset = false ∧ inp.haltLine = false ∧ inp.others = [] := calmInputs_sample hk

theorem State.withFetchWord_starts : (s.withFetchWord nbits w).Starts :=
  have ⟨reset, haltLine, _⟩ := s.withFetchWord_calm nbits w (k := 0) (by decide)
  ⟨rfl, reset, rfl, haltLine, rfl, rfl⟩

variable {s}

/-- The three bytes at PC are those of the word. -/
theorem State.withFetchWord_instrByte (hwf : s.mem.wf = true) {k : Nat} (hk : k < 3) :
    (s.withFetchWord nbits w).instrByte k = (tableBytes nbits w).getD k 0#8 := by
  have unwritten : ∀ j ≤ k, ((s.withFetchWord nbits w).sampleAt j).others = [] := fun j hj =>
    (s.withFetchWord_calm nbits w (by omega)).2.2
  rw [State.instrByte, State.memAt_of_no_others unwritten, State.byteAddress_of_ordinary k rfl]
  have hwf1 := Memory.wf_write hwf s.pc ((tableBytes nbits w).getD 0 0#8)
  have hwf2 := Memory.wf_write hwf1 (s.pc + 1#16) ((tableBytes nbits w).getD 1 0#8)
  simp only [State.withFetchWord, Memory.read_write hwf2, Memory.read_write hwf1, Memory.read_write hwf]
  interval_cases k <;> simp

end

theorem decodeTableWord_eq (nbits w : Nat) :
    decodeTableWord nbits w = some (firstInstr (tableBytes nbits w)) := by
  rw [decodeTableWord, tableBytes, decode_three_or_more]
  rfl

/-- The sixth case of a tick is a whole instruction (40_sequencer.md R163; log 1). -/
theorem step_of_starts {s : State} (h : s.Starts) : step s = exec s.fetched s := by
  have starts_instr : s.tickCase = .startInstr := by
    obtain ⟨boundary, reset, locked, haltLine, halted, detected⟩ := h
    simp [State.tickCase, State.input_eq_sampleAt, *]
  rw [step, starts_instr]

/-- Settles O7: the placed bytes are the ones fetched, so they are the ones decoded. -/
theorem placedWordRunsNext : Obligations.PlacedWordRunsNext := by
  intro s nbits w i hwf hi
  have decoded : firstInstr (tableBytes nbits w) = i := Option.some.inj ((decodeTableWord_eq nbits w).symm.trans hi)
  have fetched : (s.withFetchWord nbits w).fetched = firstInstr (tableBytes nbits w) := by
    rw [State.fetched, State.withFetchWord_instrByte nbits w hwf (by decide),
      State.withFetchWord_instrByte nbits w hwf (by decide), State.withFetchWord_instrByte nbits w hwf (by decide)]
    rfl
  rw [step_of_starts (s.withFetchWord_starts nbits w), fetched, decoded]

end Sys2Proof.Machine
end

section
/-! The rows of the opcode table as data against the decoder (30_encoding.md R118, R119, R127). Every mask covers
field x, so a byte is looked up in its own block alone; there the 256 opcode bytes are evaluated. -/

namespace Sys2Proof

/-- The rows of block `x` (30_encoding.md R111, R121). -/
def blockRows (rows : List OpRow) (x : BitVec 2) : List OpRow := rows.filter (fun r => r.pattern.extractLsb' 6 2 == x)

/-- A row whose mask covers field x fits only bytes of its own block. -/
theorem OpRow.block_of_fits {r : OpRow} {b : Byte} (covers : r.mask.extractLsb' 6 2 = 3#2) (h : r.fits b = true) :
    r.pattern.extractLsb' 6 2 = b.extractLsb' 6 2 := by
  obtain ⟨masked_eq, -⟩ := Bool.and_eq_true_iff.1 h
  rw [← beq_iff_eq.1 masked_eq, BitVec.extractLsb'_and, covers]
  exact BitVec.and_allOnes

section
variable {rows : List OpRow} (covers : ∀ r ∈ rows, r.mask.extractLsb' 6 2 = 3#2)
include covers

theorem filter_fits_blockRows (b : Byte) :
    rows.filter (fun r => r.fits b) = (blockRows rows (b.extractLsb' 6 2)).filter (fun r => r.fits b) := by
  rw [blockRows, List.filter_filter]
  refine List.filter_congr fun r hr => ?_
  cases h : r.fits b with
  | false => rfl
  | true => simp [OpRow.block_of_fits (covers r hr) h]

/-- A table with one fitting row in each byte's block has one fitting row for each byte. -/
theorem map_filter_fits_of_blocks {mnemonic : Byte → String}
    (h : ∀ (x : BitVec 2) (c : BitVec 6),
      ((blockRows rows x).filter (fun r => r.fits (x ++ c))).map (fun r => r.mnemonic) = [mnemonic (x ++ c)])
    (b : Byte) : (rows.filter (fun r => r.fits b)).map (fun r => r.mnemonic) = [mnemonic b] := by
  have fields : b.extractLsb' 6 2 ++ b.extractLsb' 0 6 = b :=
    (BitVec.extractLsb'_append_extractLsb'_eq_extractLsb' rfl).trans BitVec.extractLsb'_eq_self
  have in_block := h (b.extractLsb' 6 2) (b.extractLsb' 0 6)
  rwa [fields, ← filter_fits_blockRows covers] at in_block

end

theorem primaryRow_unique_in_block : ∀ (x : BitVec 2) (c : BitVec 6),
    ((blockRows primaryRows x).filter (fun r => r.fits (x ++ c))).map (fun r => r.mnemonic) =
      [(decodePrimary (x ++ c) 0#8 0#8).mnemonic] := by
  decide

theorem prefixedRow_unique_in_block : ∀ (x : BitVec 2) (c : BitVec 6),
    ((blockRows prefixedRows x).filter (fun r => r.fits (x ++ c))).map (fun r => r.mnemonic) =
      [(decodePrefixed (x ++ c)).mnemonic] := by
  decide

/-- Settles O4: block by block in both tables. -/
theorem oneTableRowPerByte : Obligations.OneTableRowPerByte := fun b =>
  ⟨map_filter_fits_of_blocks (by decide) (mnemonic := fun b => (decodePrimary b 0#8 0#8).mnemonic)
      primaryRow_unique_in_block b,
    map_filter_fits_of_blocks (by decide) (mnemonic := fun b => (decodePrefixed b).mnemonic)
      prefixedRow_unique_in_block b⟩

end Sys2Proof
end

section
/-! The cases of a boundary tick (40_sequencer.md R163 to R167) and the instruction that starts there (R169, R170). -/

namespace Sys2Proof.Machine

/-! ### The case of a tick (40_sequencer.md R163) -/

/-- Settles O18: in each clause the premises of the earlier cases are false. -/
theorem tickCasesInOrder : Obligations.TickCasesInOrder := by
  intro s
  refine ⟨fun mode reset => ?_, fun mode reset locked => ?_, fun mode reset locked hold => ?_,
    fun mode reset locked hold halted => ?_, fun mode reset locked hold halted irq => ?_,
    fun ⟨mode, reset, locked, hold, halted, irq⟩ => ?_, fun mode locked => ?_⟩
  all_goals simp [State.tickCase, State.input_eq_sampleAt, *]

/-! ### The idle ticks (40_sequencer.md R165 to R167) -/

/-- The whole next state of an idle tick. -/
theorem State.idleTick_eq (s : State) : s.idleTick =
    { s with
      mem := s.mem.writeAll (s.sampleAt 0).others, inputs := s.inputs.drop 1, log := .idle none :: s.log } := by
  rw [List.drop_one]; rfl

/-- The whole next state of a halted tick: only IRQ_PENDING wakes the core (40_sequencer.md R167). -/
theorem State.haltedTick_eq (s : State) : s.haltedTick =
    if (s.sampleAt 0).irqPending then
      { s.idleTick with halted := false, irqDetected := if s.ime then true else s.irqDetected }
    else s.idleTick := by
  have detected : (s.irqDetected || s.ime) = if s.ime then true else s.irqDetected := by
    cases s.ime <;> simp
  rw [State.haltedTick, detected, State.input_eq_sampleAt]

section
variable {s : State}

theorem step_and_tick_of_reset (h : s.tickCase = .reset) :
    step s = .next s.resetTick ∧ tick s = .next s.resetTick := by
  rw [step, tick, h]; exact ⟨rfl, rfl⟩

theorem step_and_tick_of_locked (h : s.tickCase = .locked) :
    step s = .next s.idleTick ∧ tick s = .next s.idleTick := by
  rw [step, tick, h]; exact ⟨rfl, rfl⟩

theorem step_and_tick_of_held (h : s.tickCase = .held) :
    step s = .next s.idleTick ∧ tick s = .next s.idleTick := by
  rw [step, tick, h]; exact ⟨rfl, rfl⟩

theorem step_and_tick_of_halted (h : s.tickCase = .halted) :
    step s = .next s.haltedTick ∧ tick s = .next s.haltedTick := by
  rw [step, tick, h]; exact ⟨rfl, rfl⟩

end

/-- Settles O20: the held and the halted case, each one idle tick. -/
theorem heldAndHaltedTicks : Obligations.HeldAndHaltedTicks := by
  intro s mode reset locked
  obtain ⟨-, -, held_case, halted_case, -⟩ := tickCasesInOrder s
  refine ⟨fun hold => ?_, fun hold halted => ?_⟩
  · obtain ⟨hstep, htick⟩ := step_and_tick_of_held (held_case mode reset locked hold)
    exact ⟨_, hstep, htick, s.idleTick_eq⟩
  · obtain ⟨hstep, htick⟩ := step_and_tick_of_halted (halted_case mode reset locked hold halted)
    refine ⟨_, hstep, htick, fun pending => ?_, fun pending => ?_⟩
    · rw [s.haltedTick_eq, pending, if_neg Bool.false_ne_true, s.idleTick_eq]
    · rw [s.haltedTick_eq, if_pos pending, s.idleTick_eq]

/-- Settles O19, by induction on the number of steps: each is an idle tick and leaves the core locked. -/
theorem lockedCoreIdlesUntilReset : Obligations.LockedCoreIdlesUntilReset := by
  intro n
  induction n with
  | zero => intro s _ _ _; rfl
  | succ n ih =>
    intro s locked mode reset
    obtain ⟨-, locked_case, -⟩ := tickCasesInOrder s
    have first_step : Sys2Proof.core.step s = .next s.idleTick :=
      (step_and_tick_of_locked (locked_case mode (reset 0 n.succ_pos) locked)).1
    have later_reset : ∀ k < n, (s.idleTick.sampleAt k).reset = false := fun k hk => by
      rw [State.sampleAt_of_inputs (s := s) (n := 1) (by simp), Nat.add_comm]
      exact reset (k + 1) (Nat.succ_lt_succ hk)
    have others_in_turn : (if n = 0 then s.idleTick.mem else s.idleTick.memAt (n - 1)) = s.memAt n := by
      cases n with
      | zero => rfl
      | succ m => exact s.idleTick_memAt m
    have idle_log : List.replicate n (BusCycle.idle none) ++ .idle none :: s.log =
        List.replicate (n + 1) (.idle none) ++ s.log := by
      rw [List.replicate_succ', List.append_assoc, List.singleton_append]
    have run_succ : Host.Core.run Sys2Proof.core (n + 1) s = Host.Core.run Sys2Proof.core n s.idleTick := by
      simp only [Host.Core.run, first_step]
    rw [run_succ, ih s.idleTick locked mode later_reset]
    rw [others_in_turn, State.idleTick_inputs, ← List.drop_one, List.drop_drop, Nat.add_comm 1 n, State.idleTick_log,
      idle_log]
    rfl

/-! ### The instruction that starts (40_sequencer.md R169, R170) -/

/-- Settles O5: three bytes always hold the instruction they begin, and it is the one `step` fetches. -/
theorem stepRunsFetchedInstruction : Obligations.StepRunsFetchedInstruction := by
  intro s i left starts decoded
  rw [decode_three_or_more] at decoded
  obtain ⟨fetched, -⟩ := Prod.mk.inj (Except.ok.inj decoded)
  rw [step_of_starts starts, State.fetched, fetched]

end Sys2Proof.Machine
end

section
/-! The bus cycles performed (20_memory.md R61, 40_sequencer.md R162, R190): every tick performs one, and a whole
sequence those of its table up to the cycle at which it stops. -/

namespace Sys2Proof.Machine

/-! ### What was performed between two states -/

/-- The kind of the bus cycle of an operation (00_scope.md R9). -/
def BusOp.kind : BusOp → CycleKind
  | .opcode | .fetch | .read _ | .pop => .read
  | .write _ _ | .push _ => .write
  | .idle | .idleAck => .idle

/-- From `s` to `t` exactly bus cycles of the kinds `ks` were performed, in this order and with one sample each. -/
def Performed (s t : State) (ks : List CycleKind) : Prop :=
  ∃ cs : List BusCycle, t.log = cs.reverse ++ s.log ∧ t.inputs = s.inputs.drop cs.length ∧ cs.map BusCycle.kind = ks

theorem Performed.single {s t : State} (b : BusCycle) (hlog : t.log = b :: s.log) (hin : t.inputs = s.inputs.tail) :
    Performed s t [b.kind] :=
  ⟨[b], hlog, hin.trans List.drop_one.symm, rfl⟩

theorem Performed.append {s t u : State} {ks ks' : List CycleKind} (h : Performed s t ks) (h' : Performed t u ks') :
    Performed s u (ks ++ ks') := by
  obtain ⟨cs, log, inputs, rfl⟩ := h
  obtain ⟨cs', log', inputs', rfl⟩ := h'
  refine ⟨cs ++ cs', ?_, ?_, List.map_append⟩
  · rw [log', log, List.reverse_append, List.append_assoc]
  · rw [inputs', inputs, List.drop_drop, List.length_append]

/-! ### One cycle -/

@[simp] theorem c0_kind : c0.op.kind = .read := rfl
@[simp] theorem cFetchZ_kind : cFetchZ.op.kind = .read := rfl
@[simp] theorem cFetchW_kind : cFetchW.op.kind = .read := rfl
@[simp] theorem cPopZ_kind : cPopZ.op.kind = .read := rfl
@[simp] theorem cPopW_kind : cPopW.op.kind = .read := rfl
@[simp] theorem cPush_kind (v : State → Byte) (act : State → State) : (cPush v act).op.kind = .write := rfl
@[simp] theorem cIdle_kind (act : State → State) : (cIdle act).op.kind = .idle := rfl
@[simp] theorem Cycle.ifTaken_kind (c : Cycle) (cc : Cond) : (c.ifTaken cc).op.kind = c.op.kind := rfl

theorem BusOp.perform_log (op : BusOp) (inp : TickIn) (g : Option Byte) (s : State) :
    ∃ b, (op.perform inp g s).1.log = b :: s.log ∧ b.kind = op.kind := by
  cases op <;> exact ⟨_, rfl, rfl⟩

/-- What looks neither at the samples to come nor at the log writes neither. -/
theorem BlindUpdate.keeps {act : State → State} (h : BlindUpdate act) (s : State) :
    (act s).inputs = s.inputs ∧ (act s).log = s.log := by
  have act_eq : act s = (act s).withRun s.inputs s.log := h s s.inputs s.log
  exact ⟨(congrArg State.inputs act_eq :), (congrArg State.log act_eq :)⟩

section
variable {c : Cycle} (h : c.Blind) (g : Option Byte) (last : Bool) (s : State)
include h

theorem Cycle.Blind.run_log :
    (∃ b, (c.run g s).log = b :: s.log ∧ b.kind = c.op.kind) ∧ (c.run g s).inputs = s.inputs := by
  obtain ⟨-, hact, -⟩ := h
  obtain ⟨b, log, kind⟩ := c.op.perform_log s.input g s.beginTick
  obtain ⟨-, -, -, -, -, -, -, inputs, -⟩ := BusOp.perform_spec s.input g s.beginTick c.op
  obtain ⟨act_inputs, act_log⟩ := (hact s.input (c.op.perform s.input g s.beginTick).2).keeps
    (c.op.perform s.input g s.beginTick).1
  exact ⟨⟨b, act_log.trans log, kind⟩, act_inputs.trans inputs⟩

/-- A tick of a sequence performs the bus cycle of its operation and no other (40_sequencer.md R162). -/
theorem Cycle.Blind.tick_performed : Performed s (c.tick g last s) [c.op.kind] := by
  obtain ⟨⟨b, log, kind⟩, inputs⟩ := h.run_log g s
  rw [← kind]
  cases he : c.ends g last s with
  | true => rw [Cycle.tick_ends g s he]; exact .single b (by simp [log]) (by simp [inputs])
  | false => rw [Cycle.tick_goes_on g s he]; exact .single b (by simp [log]) (by simp [inputs])

end

/-! ### One tick -/

theorem State.idleTick_performed (s : State) : Performed s s.idleTick [.idle] := .single (.idle none) rfl rfl

theorem State.resetTick_performed (s : State) : Performed s s.resetTick [.idle] := .single (.idle none) rfl rfl

theorem State.haltedTick_performed (s : State) : Performed s s.haltedTick [.idle] := by
  simp only [State.haltedTick]
  split <;> exact s.idleTick_performed

theorem tick_performed {s t : State} (h : tick s = .next t) : ∃ k, Performed s t [k] := by
  obtain ⟨-, rfl⟩ | ⟨-, rfl⟩ | ⟨-, rfl⟩ | ⟨s', c, rest, hstart, hr, rfl⟩ := tick_cases h
  · exact ⟨_, s.resetTick_performed⟩
  · exact ⟨_, s.idleTick_performed⟩
  · exact ⟨_, s.haltedTick_performed⟩
  · have hc : c.Blind := blind_of_mem_remaining (hr ▸ List.mem_cons_self ..)
    have performed := hc.tick_performed none rest.isEmpty s'
    obtain ⟨-, rfl⟩ | ⟨-, rfl⟩ | ⟨-, -, rfl⟩ := hstart <;> exact ⟨_, performed⟩

/-- Settles O14. -/
theorem everyTickIsOneBusCycle : Obligations.EveryTickIsOneBusCycle := by
  intro s t h
  obtain ⟨k, cs, log, inputs, kinds⟩ := tick_performed h
  obtain ⟨b, rfl, -⟩ := List.map_eq_singleton_iff.1 kinds
  exact ⟨b, log, inputs⟩

/-! ### A whole sequence -/

/-- The kinds of the cycles of a table, up to the first that stops the sequence if the flags are those of `s`. -/
def tableKinds (s : State) : List Cycle → List CycleKind
  | [] => []
  | c :: rest => c.op.kind :: if c.stops s then [] else tableKinds s rest

/-- Whether a cycle of the table stops its sequence is decided by the flags, and not by those that `f` lets the table
write. -/
def StopsForeseen (f : Flags) (table : List Cycle) : Prop :=
  ∀ s t : State, FlagsKept f s.flags t.flags → table.map (fun c => c.stops t) = table.map (fun c => c.stops s)

theorem runTable_performed {w : ControlWrites} {f : Flags} {s : State} {table : List Cycle}
    (hin : TableWithin w f table) (hb : BlindTable table) (hs : StopsForeseen f table) (bytes : List Byte) {u : State}
    (hu : FlagsKept f s.flags u.flags) : Performed u (runTable bytes table u) (tableKinds s table) := by
  induction table generalizing bytes u with
  | nil => rw [runTable_nil]; exact ⟨[], rfl, rfl, rfl⟩
  | cons c rest ih =>
    obtain ⟨hcin, hrin⟩ := tableWithin_cons.1 hin
    obtain ⟨hcb, hrb⟩ := blindTable_cons.1 hb
    have head_foreseen : ∀ t : State, FlagsKept f s.flags t.flags → c.stops t = c.stops s := fun t ht =>
      (List.cons.inj (hs s t ht)).1
    have tail_foreseen : StopsForeseen f rest := fun s t ht => (List.cons.inj (hs s t ht)).2
    generalize hg : (if c.op.takesByte then bytes.head? else none) = g
    have run_flags : FlagsKept f s.flags (c.run g u).flags := hu.trans hcin.run_frame.flags
    have performed := hcb.tick_performed g rest.isEmpty u
    cases he : c.ends g rest.isEmpty u with
    | true =>
      rw [runTable_ends u bytes rest hg.symm he]
      have stops_or_last : (if c.stops s then [] else tableKinds s rest) = [] := by
        rw [Cycle.ends, head_foreseen _ run_flags, Bool.or_eq_true, List.isEmpty_iff] at he
        obtain rfl | stops := he
        · exact ite_self _
        · exact if_pos stops
      rwa [tableKinds, stops_or_last]
    | false =>
      rw [runTable_goes_on u bytes rest hg.symm he]
      rw [Cycle.ends, head_foreseen _ run_flags, Bool.or_eq_false_iff] at he
      rw [tableKinds, he.2, if_neg Bool.false_ne_true]
      exact performed.append (ih hrin hrb tail_foreseen _ (by simpa using run_flags))

/-- A sequence goes on only if it has cycles left. -/
theorem ne_nil_of_goes_on {c : Cycle} {g : Option Byte} {rest : List Cycle} {s : State}
    (he : c.ends g rest.isEmpty s = false) : rest ≠ [] := by
  rintro rfl
  simp [Cycle.ends] at he

/-- A sequence ends with the sequencer at rest (40_sequencer.md R175). -/
theorem runTable_seq {table : List Cycle} (hne : table ≠ []) (bytes : List Byte) (s : State) :
    (runTable bytes table s).seq = Sequencer.rest := by
  induction table generalizing bytes s with
  | nil => exact absurd rfl hne
  | cons c rest ih =>
    cases he : c.ends (if c.op.takesByte then bytes.head? else none) rest.isEmpty s with
    | true => rw [runTable_ends s bytes rest rfl he, Cycle.tick_ends _ s he]; simp
    | false =>
      rw [runTable_goes_on s bytes rest rfl he]
      exact ih (ne_nil_of_goes_on he) _ _

/-! ### Every row (40_sequencer.md R190) -/

/-- Only the conditional rows stop early, on the flags, and they write none (45_control.md R300). -/
theorem cyclesOf_stopsForeseen (i : Instr) : StopsForeseen (flagsWritten i) (cyclesOf i) := by
  intro s t h
  cases i with
  | jrCc | jpCc | callCc | retCc =>
    have same : t.flags = s.flags := FlagsKept.eq_of_dashes h
    simp [cyclesOf, cyclesJrCc, cyclesJpCc, cyclesCallCc, cyclesRetCc, pushReturn, returnCycles, same]
  | _ => rfl

theorem serviceCycles_stopsForeseen (f : Flags) : StopsForeseen f serviceCycles := fun _ _ _ => rfl

/-- The cycle tables of the model are the patterns of the timing table. -/
theorem tableKinds_cyclesOf {i : Instr} (h : WellFormed i = true) (s : State) :
    tableKinds s (cyclesOf i) = patternOf s.flags i := by
  cases i with
  | prefixByte => exact absurd h (by decide)
  | jrCc cc | jpCc cc | callCc cc | retCc cc =>
    cases taken : condHolds cc s.flags
    all_goals
      simp [cyclesOf, cyclesJrCc, cyclesJpCc, cyclesCallCc, cyclesRetCc, pushReturn, returnCycles, tableKinds,
        patternOf, taken]
  | _ => rfl

theorem length_patternOf (f : Flags) (i : Instr) : (patternOf f i).length = ticksOf f i := by
  cases i with
  | jrCc cc | jpCc cc | callCc cc | retCc cc => simp only [patternOf, ticksOf]; split <;> rfl
  | _ => rfl

/-- Every instruction completes, after the cycles of its pattern. -/
theorem exec_performed {i : Instr} (h : WellFormed i = true) (s : State) :
    ∃ t, exec i s = .next t ∧ t.seq = Sequencer.rest ∧ Performed s t (patternOf s.flags i) := by
  refine ⟨_, exec_eq_runInstr s (bne_iff_ne.1 h), runTable_seq (cyclesOf_ne_nil i) _ _, ?_⟩
  rw [← tableKinds_cyclesOf h s]
  exact runTable_performed (cyclesOf_within i) (cyclesOf_blind i) (cyclesOf_stopsForeseen i) _ (u := s.startInstr)
    (FlagsKept.same _ _)

theorem service_performed (s : State) : Performed s s.service [.idle, .idle, .write, .write, .idle] :=
  runTable_performed (w := .nothing) (s := s) serviceCycles_within serviceCycles_blind
    (serviceCycles_stopsForeseen .all) [] (u := s.startService) (FlagsKept.same _ _)

/-- Settles O27: a sequence performs what its table says, and the tables are the timing table's. -/
theorem cycleKindsAndCounts : Obligations.CycleKindsAndCounts := by
  refine ⟨fun i s h => ?_, fun s => ?_⟩
  · obtain ⟨t, next, -, cs, log, inputs, kinds⟩ := exec_performed h s
    refine ⟨t, cs, next, log, inputs, kinds, ?_⟩
    rw [← length_patternOf, ← kinds, List.length_map]
  · obtain ⟨cs, log, -, kinds⟩ := service_performed s
    exact ⟨cs, log, kinds⟩

/-! ### One step from a boundary -/

theorem ticksOf_bounds (f : Flags) (i : Instr) : 1 ≤ ticksOf f i ∧ ticksOf f i ≤ 6 := by
  cases i with
  | jrCc cc | jpCc cc | callCc cc | retCc cc => simp only [ticksOf]; split <;> decide
  | _ => exact ⟨Nat.le_of_ble_eq_true rfl, Nat.le_of_ble_eq_true rfl⟩

/-- Every case of a tick at a boundary is a whole sequence of its own (40_sequencer.md R163, R174). -/
theorem step_performed {s : State} (h : s.seq.mode = .boundary) : ∃ t ks, step s = .next t ∧ t.seq.mode = .boundary ∧
    Performed s t ks ∧ 1 ≤ ks.length ∧ ks.length ≤ 6 := by
  cases hc : s.tickCase with
  | reset =>
    exact ⟨s.resetTick, _, by rw [step, hc], rfl, s.resetTick_performed, by decide, by decide⟩
  | locked | held =>
    exact ⟨s.idleTick, _, by rw [step, hc], h, s.idleTick_performed, by decide, by decide⟩
  | halted =>
    exact ⟨s.haltedTick, _, by rw [step, hc], by rwa [s.haltedTick_seq], s.haltedTick_performed, by decide, by decide⟩
  | startService =>
    have at_rest : s.service.seq = Sequencer.rest := runTable_seq (List.cons_ne_nil _ _) _ _
    exact ⟨s.service, _, by rw [step, hc], by rw [at_rest]; rfl, service_performed s, by decide, by decide⟩
  | startInstr =>
    obtain ⟨t, next, at_rest, performed⟩ := exec_performed (i := s.fetched) (decodeAt_complete _ _ _) s
    have bounds := ticksOf_bounds s.flags s.fetched
    rw [← length_patternOf] at bounds
    exact ⟨t, _, by rw [step, hc, next], by rw [at_rest]; rfl, performed, bounds⟩
  | goOn => exact absurd h (mode_of_tickCase_goOn hc)

/-- Settles O15. -/
theorem stepFromBoundaryCompletes : Obligations.StepFromBoundaryCompletes := by
  intro s h
  obtain ⟨t, ks, next, boundary, ⟨cs, log, -, rfl⟩, bounds⟩ := step_performed h
  rw [List.length_map, ← List.length_reverse] at bounds
  exact ⟨t, cs.reverse, next, boundary, log, bounds⟩

end Sys2Proof.Machine
end

section
/-! One step and the ticks up to the next boundary are the same run (40_sequencer.md R163, R170 to R174; log 1): the row
that the opcode latches select stays selected from tick to tick, and the bytes given to a whole instruction are those
its ticks read. -/

namespace Sys2Proof.Machine

/-! ### What keeps the opcode latches (10_state.md R53) -/

/-- The cycle leaves `ir` and `pfx` as they are. -/
def Cycle.KeepsLatch (c : Cycle) : Prop :=
  c.op ≠ .opcode ∧ ∀ inp b s, (c.act inp b s).seq.ir = s.seq.ir ∧ (c.act inp b s).seq.pfx = s.seq.pfx

/-- Every cycle of the table does. -/
def TableKeepsLatch (table : List Cycle) : Prop := ∀ c ∈ table, c.KeepsLatch

/-- The update leaves `ir` and `pfx` as they are. -/
def KeepsLatch (act : State → State) : Prop :=
  ∀ s, (act s).seq.ir = s.seq.ir ∧ (act s).seq.pfx = s.seq.pfx

@[simp] theorem keepsLatch_id : KeepsLatch id := fun _ => ⟨rfl, rfl⟩

@[simp] theorem tableKeepsLatch_nil : TableKeepsLatch [] := by simp [TableKeepsLatch]

@[simp] theorem tableKeepsLatch_cons {c : Cycle} {rest : List Cycle} :
    TableKeepsLatch (c :: rest) ↔ c.KeepsLatch ∧ TableKeepsLatch rest := by simp [TableKeepsLatch]

@[simp] theorem cFetch_keepsLatch {act : Byte → State → State} :
    (cFetch act).KeepsLatch ↔ ∀ b, KeepsLatch (act b) := by
  simp [Cycle.KeepsLatch, cFetch, forall_tickIn, KeepsLatch]

@[simp] theorem cPop_keepsLatch {act : Byte → State → State} :
    (cPop act).KeepsLatch ↔ ∀ b, KeepsLatch (act b) := by
  simp [Cycle.KeepsLatch, cPop, forall_tickIn, KeepsLatch]

@[simp] theorem cRead_keepsLatch {addr : State → Word} {act : Byte → State → State} :
    (cRead addr act).KeepsLatch ↔ ∀ b, KeepsLatch (act b) := by
  simp [Cycle.KeepsLatch, cRead, forall_tickIn, KeepsLatch]

@[simp] theorem cWrite_keepsLatch {addr : State → Word} {v : State → Byte} {act : State → State} :
    (cWrite addr v act).KeepsLatch ↔ KeepsLatch act := by
  simp [Cycle.KeepsLatch, cWrite, forall_tickIn, KeepsLatch]

@[simp] theorem cPush_keepsLatch {v : State → Byte} {act : State → State} :
    (cPush v act).KeepsLatch ↔ KeepsLatch act := by
  simp [Cycle.KeepsLatch, cPush, forall_tickIn, KeepsLatch]

@[simp] theorem cIdle_keepsLatch {act : State → State} : (cIdle act).KeepsLatch ↔ KeepsLatch act := by
  simp [Cycle.KeepsLatch, cIdle, forall_tickIn, KeepsLatch]

@[simp] theorem Cycle.ifTaken_keepsLatch {c : Cycle} {cc : Cond} : (c.ifTaken cc).KeepsLatch ↔ c.KeepsLatch := Iff.rfl

@[simp] theorem cFetchZ_keepsLatch : cFetchZ.KeepsLatch := by simp [cFetchZ, KeepsLatch]
@[simp] theorem cFetchW_keepsLatch : cFetchW.KeepsLatch := by simp [cFetchW, KeepsLatch]
@[simp] theorem cPopZ_keepsLatch : cPopZ.KeepsLatch := by simp [cPopZ, KeepsLatch]
@[simp] theorem cPopW_keepsLatch : cPopW.KeepsLatch := by simp [cPopW, KeepsLatch]
@[simp] theorem cIndex_keepsLatch : cIndex.KeepsLatch := by simp [cIndex, KeepsLatch]

@[simp] theorem modifyHL_keepsLatch (f : Byte → Flags → Byte × Flags) : TableKeepsLatch (modifyHL f) := by
  simp [modifyHL, KeepsLatch]

@[simp] theorem pushReturn_keepsLatch (target : State → Word) : TableKeepsLatch (pushReturn target) := by
  simp [pushReturn, KeepsLatch]

@[simp] theorem trapCycles_keepsLatch (vec : Word) : TableKeepsLatch (trapCycles vec) := by
  simp [trapCycles]

@[simp] theorem returnCycles_keepsLatch {act : State → State} (h : KeepsLatch act) :
    TableKeepsLatch (returnCycles act) := by
  simp [returnCycles, KeepsLatch, h _]

/-- In a row of the primary table every cycle after the opcode fetch keeps the latches. -/
theorem cyclesOf_tail_keepsLatch {i : Instr} (h : (encode i).head? ≠ some Config.prefixValue) :
    TableKeepsLatch (cyclesOf i).tail := by
  cases i with
  | rlcR | rrcR | rlR | rrR | slaR | sraR | swapR | srlR | rlcM | rrcM | rlM | rrM | slaM | sraM | swapM | srlM | bitR
  | bitM | resR | resM | setR | setM | prefixByte => exact absurd rfl h
  | addAM | adcAM | subAM | sbcAM | andAM | xorAM | orAM | cpAM =>
    exact tableKeepsLatch_cons.2 ⟨cRead_keepsLatch.2 fun _ _ => ⟨rfl, rfl⟩, tableKeepsLatch_nil⟩
  | addAN | adcAN | subAN | sbcAN | andAN | xorAN | orAN | cpAN =>
    exact tableKeepsLatch_cons.2 ⟨cFetch_keepsLatch.2 fun _ _ => ⟨rfl, rfl⟩, tableKeepsLatch_nil⟩
  | incM | decM => exact modifyHL_keepsLatch _
  | ldRM | ldABc | ldADe | ldMR | ldBcA | ldDeA =>
    simp [cyclesOf, cyclesLdRM, cyclesLdABc, cyclesLdADe, cyclesLdMR, cyclesLdBcA, cyclesLdDeA, loadIndirect,
      storeIndirect, KeepsLatch]
  | swi | undTrap => exact trapCycles_keepsLatch _
  | ret => exact returnCycles_keepsLatch keepsLatch_id
  | reti => exact returnCycles_keepsLatch (act := fun st => st.setIME true) fun _ => ⟨rfl, rfl⟩
  | retCc cc => simp [cyclesOf, cyclesRetCc]
  | jr | jrCc | jp | jpCc | call | callCc =>
    simp [cyclesOf, cyclesJr, cyclesJrCc, cyclesJp, cyclesJpCc, cyclesCall, cyclesCallCc, KeepsLatch]
  | ldRN | ldMN | ldANn | ldNnA | ldAHld | ldHldA =>
    simp [cyclesOf, cyclesLdRN, cyclesLdMN, cyclesLdANn, cyclesLdNnA, cyclesLdAHld, cyclesLdHldA, KeepsLatch]
  | ldPpNn | ldSpHl | pushQq | pushAf | popQq | popAf =>
    simp [cyclesOf, cyclesLdPpNn, cyclesLdSpHl, cyclesPushQq, cyclesPushAf, cyclesPopQq, cyclesPopAf, KeepsLatch]
  | incPp | decPp | addHlPp => simp [cyclesOf, cyclesIncPp, cyclesDecPp, cyclesAddHlPp, KeepsLatch]
  | _ => exact tableKeepsLatch_nil

/-- In every row the cycles after the second keep the latches: the second may be the c1 of a prefixed row. -/
theorem cyclesOf_drop_two_keepsLatch (i : Instr) : TableKeepsLatch ((cyclesOf i).drop 2) := by
  by_cases h : (encode i).head? = some Config.prefixValue
  · cases i with
    | rlcM | rrcM | rlM | rrM | slaM | sraM | swapM | srlM | resM | setM => exact modifyHL_keepsLatch _
    | bitM =>
      exact tableKeepsLatch_cons.2 ⟨cRead_keepsLatch.2 fun _ _ => ⟨rfl, rfl⟩, tableKeepsLatch_nil⟩
    | rlcR | rrcR | rlR | rrR | slaR | sraR | swapR | srlR | bitR | resR | setR | prefixByte =>
      exact tableKeepsLatch_nil
    | _ => simp [encode] at h
  · rw [← List.drop_tail]
    exact fun c hc => cyclesOf_tail_keepsLatch h c (List.mem_of_mem_drop hc)

/-- A prefixed row of more than two cycles has no action in c1 beside the latching of its opcode. -/
theorem cyclesOf_decodePrefixed (op : Byte) :
    ∃ c back, cyclesOf (decodePrefixed op) = c0 :: c :: back ∧ (back = [] ∨ c = cPrefixed id) := by
  have first_byte : (encode (decodePrefixed op)).head? = some Config.prefixValue := by
    rw [encode_decodePrefixed]; rfl
  generalize decodePrefixed op = i at first_byte
  cases i with
  | rlcR | rrcR | rlR | rrR | slaR | sraR | swapR | srlR | bitR | resR | setR | prefixByte =>
    exact ⟨_, _, rfl, .inl rfl⟩
  | rlcM | rrcM | rlM | rrM | slaM | sraM | swapM | srlM | bitM | resM | setM => exact ⟨_, _, rfl, .inr rfl⟩
  | _ => simp [encode] at first_byte

/-- A row of more than one cycle has no action in c0 beside the fetch. -/
theorem c0_of_cyclesOf {i : Instr} {c d : Cycle} {rest : List Cycle} (h : cyclesOf i = c :: d :: rest) : c = c0 := by
  have first_cycle : (cyclesOf i).dropLast.head? = (cyclesOf i).tail.head?.map fun _ => c0 := by cases i <;> rfl
  simpa [h] using first_cycle

section
variable {c : Cycle} (h : c.KeepsLatch) (g : Option Byte) (s : State)
include h

theorem Cycle.KeepsLatch.run : (c.run g s).seq.ir = s.seq.ir ∧ (c.run g s).seq.pfx = s.seq.pfx := by
  obtain ⟨hop, hact⟩ := h
  obtain ⟨act_ir, act_pfx⟩ := hact s.input (c.op.perform s.input g s.beginTick).2 (c.op.perform s.input g s.beginTick).1
  obtain ⟨-, -, -, -, -, -, -, -, -, -, -, op_pfx, -⟩ := BusOp.perform_spec s.input g s.beginTick c.op
  have op_ir : (c.op.perform s.input g s.beginTick).1.seq.ir = s.seq.ir := by
    cases hc : c.op with
    | opcode => exact absurd hc hop
    | _ => rfl
  exact ⟨act_ir.trans op_ir, act_pfx.trans op_pfx⟩

end

/-! ### The selected row (30_encoding.md R119, 40_sequencer.md R170, R171) -/

/-- The row that the latches alone select, from c2 on (10_state.md R53). -/
def State.latchedRow (s : State) : Instr :=
  if s.seq.pfx then decodePrefixed s.seq.ir else decodePrimary s.seq.ir 0#8 0#8

/-- The row is latched, but in c0 and in the c1 after 0xCB. -/
theorem State.currentRow_eq_latchedRow {s : State} (h0 : s.seq.step ≠ 0#3)
    (h1 : s.seq.ir = Config.prefixValue → s.seq.step ≠ 1#3) : s.currentRow = s.latchedRow := by
  have not_c1 : ¬(s.seq.ir = Config.prefixValue ∧ s.seq.step = 1#3) := fun ⟨hir, hstep⟩ => h1 hir hstep
  simp only [State.currentRow, State.latchedRow, h0, not_c1, if_false]

/-- In c1 after 0xCB the row is selected by the byte at PC. -/
theorem State.currentRow_c1 {s : State} (h1 : s.seq.step = 1#3) (hp : s.seq.pfx = false)
    (hir : s.seq.ir = Config.prefixValue) : s.currentRow = decodePrefixed (s.busRead s.pc) := by
  simp [State.currentRow, h1, hp, hir]

theorem State.currentRow_from_c2 {s : State} (h : 2 ≤ s.seq.step.toNat) : s.currentRow = s.latchedRow := by
  refine State.currentRow_eq_latchedRow ?_ fun _ => ?_
  all_goals intro hstep; rw [hstep] at h; exact absurd h (by decide)

/-- The row of 0xCB itself has no cycle after c1. -/
theorem cyclesOf_decodePrimary_prefixValue : cyclesOf (decodePrimary Config.prefixValue 0#8 0#8) = [c0, cPrefixed id] :=
  rfl

/-- The operand bytes do not choose the cycles (40_sequencer.md R172). -/
theorem cyclesOf_decodePrimary (op b1 b2 : Byte) :
    cyclesOf (decodePrimary op b1 b2) = cyclesOf (decodePrimary op 0#8 0#8) := by
  obtain ⟨x, y, z, rfl⟩ := exists_opcodeByte op
  cases x with
  | q0 =>
    rw [decodePrimary_q0, decodePrimary_q0]
    cases z <;> cases y <;> rfl
  | q1 => rw [decodePrimary_q1, decodePrimary_q1]
  | q2 => rw [decodePrimary_q2, decodePrimary_q2]
  | q3 =>
    rw [decodePrimary_q3, decodePrimary_q3]
    cases z <;> cases y <;> rfl

theorem head_encode_decodePrimary (op b1 b2 : Byte) : (encode (decodePrimary op b1 b2)).head? = some op := by
  rw [encode_decodePrimary, List.head?_take, if_neg (decodePrimary op b1 b2).length_pos.ne']
  rfl

/-! ### From one cycle of a sequence to the next -/

section
variable {s : State} {c : Cycle} {rest : List Cycle}

/-- A sequence that goes on stands at its fifth cycle at most. -/
theorem step_le_of_remaining (hm : s.seq.mode ≠ .boundary) (hr : s.remaining = c :: rest) (hrest : rest ≠ []) :
    s.seq.step.toNat ≤ 4 := by
  cases mode : s.seq.mode with
  | boundary => exact absurd mode hm
  | exec => exact step_le_of_remaining_exec mode hr hrest
  | service => exact (step_le_of_remaining_service mode hr hrest).trans (by decide)

/-- After a cycle that does not end the sequence the cycles left are one fewer, if the row selected has the same
cycles. -/
theorem remaining_tick (hs : s.Running) (hm : s.seq.mode ≠ .boundary) (hr : s.remaining = c :: rest)
    (he : c.ends none rest.isEmpty s = false) (hrow : s.seq.mode = .exec →
      cyclesOf (c.tick none rest.isEmpty s).currentRow = cyclesOf s.currentRow) :
    (c.tick none rest.isEmpty s).remaining = rest := by
  have hq : s.Sequence (c :: rest) := hr ▸ State.sequence_remaining hm
  obtain ⟨hrest, -, -, mode, step, -⟩ := hq.tick_goes_on hs he
  have hle := step_le_of_remaining hm hr hrest
  have step_toNat : (c.tick none rest.isEmpty s).seq.step.toNat = s.seq.step.toNat + 1 := by
    rw [step]; bv_omega
  have drop_next {table : List Cycle} (h : table.drop s.seq.step.toNat = c :: rest) :
      table.drop (s.seq.step.toNat + 1) = rest := by
    rw [← List.tail_drop, h, List.tail_cons]
  simp only [State.remaining, mode, step_toNat] at hr ⊢
  cases hmode : s.seq.mode with
  | boundary => exact absurd hmode hm
  | exec =>
    simp only [hmode] at hr ⊢
    rw [hrow hmode]
    exact drop_next hr
  | service =>
    simp only [hmode] at hr ⊢
    exact drop_next hr

/-- After a cycle that neither ends the sequence nor changes the latches, the row they select is the same. -/
theorem latchedRow_tick (he : c.ends none rest.isEmpty s = false) (hk : c.KeepsLatch) :
    (c.tick none rest.isEmpty s).latchedRow = s.latchedRow := by
  obtain ⟨ir, pfx⟩ := hk.run none s
  rw [Cycle.tick_goes_on _ _ he, State.latchedRow, State.latchedRow, ← ir, ← pfx]
  rfl

/-- The c1 after 0xCB latches the row that it selected (40_sequencer.md R171). -/
theorem latchedRow_cPrefixed_tick : ((cPrefixed id).tick none false s).latchedRow = decodePrefixed (s.busRead s.pc) :=
  rfl

/-- After a c1 that goes on the latches select the row it was a cycle of: it latched that row after 0xCB, and
kept the latches in every other row (40_sequencer.md R171). -/
theorem latchedRow_tick_c1 (c1 : s.seq.step = 1#3) (not_pfx : s.seq.pfx = false)
    (in_row : (cyclesOf s.currentRow).tail = c :: rest) (he : c.ends none rest.isEmpty s = false) :
    (c.tick none rest.isEmpty s).latchedRow = s.currentRow := by
  by_cases after_prefix : s.seq.ir = Config.prefixValue
  · rw [State.currentRow_c1 c1 not_pfx after_prefix] at in_row ⊢
    obtain ⟨c', back, hrow, hback⟩ := cyclesOf_decodePrefixed (s.busRead s.pc)
    obtain ⟨rfl, rfl⟩ : c' = c ∧ back = rest := by simpa [hrow] using in_row
    have hrest := ne_nil_of_goes_on he
    obtain rfl := hback.resolve_left hrest
    obtain ⟨d, back', rfl⟩ := List.exists_cons_of_ne_nil hrest
    exact latchedRow_cPrefixed_tick
  · have latched : s.currentRow = s.latchedRow :=
      State.currentRow_eq_latchedRow (by rw [c1]; decide) fun h => absurd h after_prefix
    have first_byte : (encode s.latchedRow).head? ≠ some Config.prefixValue := by
      rw [State.latchedRow, not_pfx, if_neg Bool.false_ne_true, head_encode_decodePrimary]
      exact fun h => after_prefix (Option.some.inj h)
    rw [latched] at in_row ⊢
    exact latchedRow_tick he (cyclesOf_tail_keepsLatch first_byte c (in_row ▸ List.mem_cons_self ..))

/-- Between two cycles of an instruction the selected row stays (40_sequencer.md R171, R172). -/
theorem currentRow_tick (hinv : s.Inv) (hm : s.seq.mode = .exec) (hr : s.remaining = c :: rest)
    (he : c.ends none rest.isEmpty s = false) : (c.tick none rest.isEmpty s).currentRow = s.currentRow := by
  have hmb : s.seq.mode ≠ .boundary := by rw [hm]; nofun
  have hq : s.Sequence (c :: rest) := hr ▸ State.sequence_remaining hmb
  obtain ⟨hrest, -, -, -, step, -⟩ := hq.tick_goes_on (hinv.running hmb) he
  obtain ⟨⟨-, -, -, -, -, step_bounds, -⟩, prefix_seen, -⟩ := hinv
  obtain ⟨step_pos, -⟩ := step_bounds hm
  have step_le := step_le_of_remaining hmb hr hrest
  have in_row : (cyclesOf s.currentRow).drop s.seq.step.toNat = c :: rest := by
    rw [← hr]; simp only [State.remaining, hm]
  have next_latched : (c.tick none rest.isEmpty s).currentRow = (c.tick none rest.isEmpty s).latchedRow :=
    State.currentRow_from_c2 (by rw [step]; bv_omega)
  rw [next_latched]
  by_cases from_c2 : 2 ≤ s.seq.step.toNat
  · have in_drop_two : c ∈ (cyclesOf s.currentRow).drop 2 :=
      List.drop_subset_drop_left _ from_c2 (in_row ▸ List.mem_cons_self ..)
    rw [latchedRow_tick he (cyclesOf_drop_two_keepsLatch _ c in_drop_two), State.currentRow_from_c2 from_c2]
  · have c1 : s.seq.step = 1#3 := by bv_omega
    have not_pfx : s.seq.pfx = false := Bool.eq_false_iff.2 fun hp => from_c2 (prefix_seen hm hp)
    exact latchedRow_tick_c1 c1 not_pfx (by rw [← List.drop_one, ← in_row, c1]; rfl) he

end

/-! ### The bytes given and the bytes read (40_sequencer.md R170; log 8) -/

/-- A row reads its instruction bytes in its first cycles, all but the last of them by the plain `c0` and `cFetchZ`. -/
theorem cyclesOf_fetches {i : Instr} (h : i ≠ .prefixByte) :
    ∃ c back, cyclesOf i = [c0, cFetchZ].take (i.length - 1) ++ c :: back ∧ c.op.takesByte = true ∧
      back.all (fun d => !d.op.takesByte) = true := by
  cases i with
  | prefixByte => exact absurd rfl h
  | _ => exact ⟨_, _, rfl, rfl, rfl⟩

section
variable (c : Cycle) (last : Bool) (s : State)

theorem BusOp.perform_given (op : BusOp) (inp : TickIn) :
    op.perform inp (some (s.mem.read s.pc)) s = op.perform inp none s := by
  cases op <;> rfl

/-- A cycle given the byte that it would read does the same. -/
theorem Cycle.run_given : c.run (some (s.busRead s.pc)) s = c.run none s := by
  rw [Cycle.run, Cycle.run, State.busRead, ← State.beginTick_pc, BusOp.perform_given]

theorem Cycle.ends_given : c.ends (some (s.busRead s.pc)) last s = c.ends none last s := by
  rw [Cycle.ends, Cycle.ends, Cycle.run_given]

theorem Cycle.tick_given : c.tick (some (s.busRead s.pc)) last s = c.tick none last s := by
  rw [Cycle.tick, Cycle.tick, Cycle.run_given, Cycle.ends_given]

/-- Byte 0 of the instruction to be fetched is the byte the bus returns at PC. -/
theorem State.instrByte_zero : s.instrByte 0 = s.busRead s.pc := by
  rw [State.instrByte, State.byteAddress_zero]; rfl

end

section
variable {s : State} {c : Cycle} {table : List Cycle} {bytes : List Byte}

/-- A run that takes no byte does not depend on the bytes given. -/
theorem runTable_of_takes_none (h : table.all (fun d => !d.op.takesByte) = true) :
    runTable bytes table s = runTable [] table s := by
  induction table generalizing s with
  | nil => rw [runTable_nil, runTable_nil]
  | cons c rest ih =>
    rw [List.all_cons, Bool.and_eq_true, Bool.not_eq_true'] at h
    obtain ⟨takes_none, hrest⟩ := h
    cases he : c.ends none rest.isEmpty s with
    | true =>
      rw [runTable_ends s bytes rest (g := none) (by simp [takes_none]) he,
        runTable_ends s [] rest (g := none) (by simp [takes_none]) he]
    | false =>
      rw [runTable_goes_on s bytes rest (g := none) (by simp [takes_none]) he,
        runTable_goes_on s [] rest (g := none) (by simp [takes_none]) he]
      simpa [takes_none] using ih hrest

/-- A first byte that the bus returns at PC may be given or read. -/
theorem runTable_cons_given {b : Byte} (hb : b = s.instrByte 0) (hc : c.op.takesByte = true)
    (h : runTable bytes table (c.tick none table.isEmpty s) = runTable [] table (c.tick none table.isEmpty s)) :
    runTable (b :: bytes) (c :: table) s = runTable [] (c :: table) s := by
  rw [hb, State.instrByte_zero]
  have given : some (s.busRead s.pc) = if c.op.takesByte then (s.busRead s.pc :: bytes).head? else none := by
    simp [hc]
  have not_given : none = if c.op.takesByte then ([] : List Byte).head? else none := by simp
  cases he : c.ends none table.isEmpty s with
  | true =>
    rw [runTable_ends s _ table given (by rw [Cycle.ends_given, he]), runTable_ends s _ table not_given he,
      Cycle.tick_given]
  | false =>
    rw [runTable_goes_on s _ table given (by rw [Cycle.ends_given, he]), runTable_goes_on s _ table not_given he,
      Cycle.tick_given]
    simpa [hc] using h

end

section
variable (s : State) (k : Nat)

/-- After c0 the bytes to come are those after the opcode, under the halt glitch too. -/
theorem instrByte_c0_tick : (c0.tick none false s).instrByte k = s.instrByte (k + 1) := by
  have bus_side : (c0.tick none false s).memAt k = s.memAt (k + 1) :=
    State.memAt_congr (s := s.beginTick.popInput) (t := c0.tick none false s) rfl rfl k
  have next_pc : (c0.tick none false s).pc = s.opcodePC := rfl
  rw [State.instrByte, State.instrByte, bus_side, State.byteAddress_of_ordinary k rfl, next_pc, State.opcodePC]
  cases glitch : s.haltBug with
  | true => rw [State.byteAddress_succ_of_glitch k glitch, if_pos rfl]
  | false =>
    rw [State.byteAddress_of_ordinary (k + 1) glitch, if_neg Bool.false_ne_true, BitVec.add_assoc, ← BitVec.ofNat_add,
      Nat.add_comm]

theorem instrByte_cFetchZ_tick (h : s.haltBug = false) :
    (cFetchZ.tick none false s).instrByte k = s.instrByte (k + 1) := by
  have bus_side : (cFetchZ.tick none false s).memAt k = s.memAt (k + 1) :=
    State.memAt_congr (s := s.beginTick.popInput) (t := cFetchZ.tick none false s) rfl rfl k
  have next_pc : (cFetchZ.tick none false s).pc = s.pc + 1#16 := rfl
  rw [State.instrByte, State.instrByte, bus_side, State.byteAddress_of_ordinary (s := cFetchZ.tick none false s) k h,
    next_pc, State.byteAddress_of_ordinary (k + 1) h, BitVec.add_assoc, ← BitVec.ofNat_add, Nat.add_comm]

end

/-- A whole instruction given the bytes fetched is the run that reads them cycle by cycle. -/
theorem runTable_fetched (s : State) :
    runTable (encode s.fetched) (cyclesOf s.fetched) s = runTable [] (cyclesOf s.fetched) s := by
  have bytes : encode s.fetched = [s.instrByte 0, s.instrByte 1, s.instrByte 2].take s.fetched.length :=
    encode_decodeAt ..
  have complete : s.fetched ≠ .prefixByte := bne_iff_ne.1 (decodeAt_complete _ _ _)
  obtain ⟨c, back, hrow, hc, hback⟩ := cyclesOf_fetches complete
  have lengths : s.fetched.length = 1 ∨ s.fetched.length = 2 ∨ s.fetched.length = 3 := by
    have := s.fetched.length_pos
    have := s.fetched.length_le_three
    omega
  rw [hrow, bytes]
  obtain length | length | length := lengths <;> rw [length]
  · exact runTable_cons_given rfl hc (runTable_of_takes_none hback)
  · have operand := runTable_cons_given (instrByte_c0_tick s 0).symm hc (runTable_of_takes_none hback (bytes := []))
    exact runTable_cons_given rfl rfl operand
  · have third_byte : s.instrByte 2 = (cFetchZ.tick none false (c0.tick none false s)).instrByte 0 :=
      ((instrByte_cFetchZ_tick (c0.tick none false s) 0 rfl).trans (instrByte_c0_tick s 1)).symm
    have operand := runTable_cons_given third_byte hc (runTable_of_takes_none hback (bytes := []))
    exact runTable_cons_given rfl rfl (runTable_cons_given (instrByte_c0_tick s 0).symm rfl operand)

/-! ### Ticks up to the boundary (40_sequencer.md R174) -/

theorem ticksToBoundary_of_boundary {s : State} (h : s.seq.mode = .boundary) (fuel : Nat) :
    ticksToBoundary fuel s = .next s := by
  cases fuel with
  | zero => rfl
  | succ n => rw [ticksToBoundary, if_pos h]

/-- `s` stands between two cycles of a sequence, before the cycles `table`. -/
structure State.Before (s : State) (table : List Cycle) : Prop where
  inv : s.Inv
  mode : s.seq.mode ≠ .boundary
  step : s.seq.step ≠ 0#3
  remaining : s.remaining = table

section
variable {s : State} {c : Cycle} {rest : List Cycle}

/-- If the rest of a sequence is its ticks, so is the sequence from one cycle earlier. -/
theorem ticksToBoundary_tick {fuel : Nat} (hrun : c.ends none rest.isEmpty s = false →
      ticksToBoundary fuel (c.tick none rest.isEmpty s) = .next (runTable [] rest (c.tick none rest.isEmpty s))) :
    ticksToBoundary fuel (c.tick none rest.isEmpty s) = .next (runTable [] (c :: rest) s) := by
  have not_given : none = if c.op.takesByte then ([] : List Byte).head? else none := by simp
  cases he : c.ends none rest.isEmpty s with
  | true =>
    have at_rest : (c.tick none rest.isEmpty s).seq.mode = .boundary := by
      rw [Cycle.tick_ends _ _ he, State.popInput_seq, State.complete_seq]; rfl
    rw [runTable_ends s [] rest not_given he, ticksToBoundary_of_boundary at_rest]
  | false =>
    rw [runTable_goes_on s [] rest not_given he, hrun he]
    simp

/-- The tick of a sequence in progress is its next cycle. -/
theorem State.Before.tick (h : s.Before (c :: rest)) : tick s = .next (c.tick none rest.isEmpty s) := by
  rw [tick_inside h.mode, (h.inv.running h.mode).locked, if_neg Bool.false_ne_true, if_neg h.step, State.tickSequence,
    h.remaining]

theorem State.Before.after_tick (h : s.Before (c :: rest)) (he : c.ends none rest.isEmpty s = false) :
    (c.tick none rest.isEmpty s).Before rest := by
  have hs := h.inv.running h.mode
  have hq : s.Sequence (c :: rest) := h.remaining ▸ State.sequence_remaining h.mode
  obtain ⟨hrest, -, -, mode, step, -⟩ := hq.tick_goes_on hs he
  have step_le := step_le_of_remaining h.mode h.remaining hrest
  refine ⟨tickKeepsInvariant s _ h.inv h.tick, by rw [mode]; exact h.mode, by rw [step]; bv_omega, ?_⟩
  exact remaining_tick hs h.mode h.remaining he fun hm => congrArg cyclesOf (currentRow_tick h.inv hm h.remaining he)

end

/-- From between two cycles the ticks to the boundary are the rest of the sequence run as a whole. -/
theorem State.Before.ticksToBoundary {table : List Cycle} (hne : table ≠ []) {s : State} (h : s.Before table)
    {fuel : Nat} (hlen : table.length ≤ fuel) : ticksToBoundary fuel s = .next (runTable [] table s) := by
  induction table generalizing s fuel with
  | nil => exact absurd rfl hne
  | cons c rest ih =>
    obtain ⟨n, rfl⟩ : ∃ n, fuel = n + 1 := ⟨fuel - 1, by rw [List.length_cons] at hlen; omega⟩
    rw [Machine.ticksToBoundary, if_neg h.mode, h.tick]
    exact ticksToBoundary_tick fun he => ih (ne_nil_of_goes_on he) (h.after_tick he) (Nat.le_of_succ_le_succ hlen)

/-! ### The starts of the two sequences (40_sequencer.md R168 to R171) -/

section
variable {s : State}

/-- From a row of the primary table the first byte alone chooses the cycles. -/
theorem cyclesOf_fetched_primary (h : s.busRead s.pc ≠ Config.prefixValue) :
    cyclesOf s.fetched = cyclesOf (decodePrimary (s.busRead s.pc) 0#8 0#8) := by
  rw [State.fetched, State.instrByte_zero, decodeAt_primary h, cyclesOf_decodePrimary]

theorem fetched_prefixed (h : s.busRead s.pc = Config.prefixValue) : s.fetched = decodePrefixed (s.instrByte 1) := by
  rw [State.fetched, State.instrByte_zero, h, decodeAt_prefixed]

/-- Starting an instruction does not change what is fetched. -/
theorem instrByte_startInstr (s : State) (k : Nat) : s.startInstr.instrByte k = s.instrByte k := by
  rw [State.instrByte, State.instrByte, State.memAt_congr (s := s) (t := s.startInstr) rfl rfl]; rfl

theorem fetched_startInstr (s : State) : s.startInstr.fetched = s.fetched := by
  simp only [State.fetched, instrByte_startInstr]

theorem remaining_startInstr (s : State) :
    s.startInstr.remaining = cyclesOf (decodePrimary (s.busRead s.pc) 0#8 0#8) := rfl

theorem tick_eq_tickSequence (h : s.tickCase = .startInstr) : tick s = s.startInstr.tickSequence := by rw [tick, h]

/-- The tick that starts an instruction performs the first cycle of the instruction fetched, although only byte 0 of
it is read. -/
theorem tick_startInstr {c : Cycle} {rest : List Cycle} (hc : s.tickCase = .startInstr)
    (hrow : cyclesOf s.fetched = c :: rest) : tick s = .next (c.tick none rest.isEmpty s.startInstr) := by
  rw [tick_eq_tickSequence hc, State.tickSequence, remaining_startInstr]
  by_cases h : s.busRead s.pc = Config.prefixValue
  · obtain ⟨c', back, two_bytes, -⟩ := cyclesOf_decodePrefixed (s.instrByte 1)
    rw [fetched_prefixed h, two_bytes] at hrow
    obtain ⟨rfl, rfl⟩ := List.cons.inj hrow
    rw [h, cyclesOf_decodePrimary_prefixValue]
    rfl
  · rw [← cyclesOf_fetched_primary h, hrow]

/-- After c0 the machine is in the row of the instruction fetched. -/
theorem cyclesOf_currentRow_after_c0 (s : State) :
    cyclesOf (c0.tick none false s.startInstr).currentRow = cyclesOf s.fetched := by
  have c1 : (c0.tick none false s.startInstr).seq.step = 1#3 := rfl
  have not_pfx : (c0.tick none false s.startInstr).seq.pfx = false := rfl
  have ir : (c0.tick none false s.startInstr).seq.ir = s.busRead s.pc := rfl
  by_cases h : s.busRead s.pc = Config.prefixValue
  · rw [State.currentRow_c1 c1 not_pfx (ir.trans h), ← State.instrByte_zero, instrByte_c0_tick, instrByte_startInstr,
      fetched_prefixed h]
  · rw [State.currentRow_eq_latchedRow (by rw [c1]; decide) fun hir => absurd (ir.symm.trans hir) h, State.latchedRow,
      not_pfx, if_neg Bool.false_ne_true, ir, cyclesOf_fetched_primary h]

/-- One step is one tick followed by the ticks up to the next boundary. -/
def StepIsTicks (s : State) : Prop := ∃ t u, tick s = .next t ∧ step s = .next u ∧ ticksToBoundary 5 t = .next u

/-- A case of the tick that is one idle tick for the step too. -/
theorem stepIsTicks_of_boundary {t : State} (h : step s = .next t ∧ tick s = .next t)
    (ht : t.seq.mode = .boundary) : StepIsTicks s := ⟨t, t, h.2, h.1, ticksToBoundary_of_boundary ht 5⟩

theorem stepIsTicks_startService (hinv : s.Inv) (hc : s.tickCase = .startService) : StepIsTicks s := by
  have htick : tick s = .next ((cIdle id).tick none false s.startService) := by rw [tick, hc]; rfl
  have c1 : ((cIdle id).tick none false s.startService).seq.step = 1#3 := rfl
  have before : ((cIdle id).tick none false s.startService).Before serviceCycles.tail :=
    ⟨tickKeepsInvariant s _ hinv htick, nofun, by rw [c1]; decide, rfl⟩
  exact ⟨_, s.service, htick, by rw [step, hc], ticksToBoundary_tick (rest := serviceCycles.tail) fun _ =>
    before.ticksToBoundary (List.cons_ne_nil _ _) (by decide)⟩

theorem stepIsTicks_startInstr (hinv : s.Inv) (hc : s.tickCase = .startInstr) : StepIsTicks s := by
  obtain ⟨c, rest, hrow, -⟩ := cyclesOf_head s.fetched
  have htick := tick_startInstr hc hrow
  have hstep : step s = .next (runTable [] (c :: rest) s.startInstr) := by
    have given := runTable_fetched s.startInstr
    rw [fetched_startInstr, hrow] at given
    rw [step, hc, ← given, ← hrow]
    exact exec_eq_runInstr s (bne_iff_ne.1 (decodeAt_complete _ _ _))
  refine ⟨_, _, htick, hstep, ticksToBoundary_tick fun he => ?_⟩
  cases rest with
  | nil => exact absurd rfl (ne_nil_of_goes_on he)
  | cons d rest =>
    obtain rfl := c0_of_cyclesOf hrow
    have c1 : (c0.tick none false s.startInstr).seq.step = 1#3 := rfl
    have remaining : (c0.tick none false s.startInstr).remaining = d :: rest := by
      show (cyclesOf (c0.tick none false s.startInstr).currentRow).drop 1 = d :: rest
      rw [cyclesOf_currentRow_after_c0, hrow]; rfl
    have before : (c0.tick none false s.startInstr).Before (d :: rest) :=
      ⟨tickKeepsInvariant s _ hinv htick, nofun, by rw [c1]; decide, remaining⟩
    have length_le := cyclesOf_length_le s.fetched
    rw [hrow] at length_le
    exact before.ticksToBoundary (List.cons_ne_nil _ _) (Nat.le_of_succ_le_succ length_le)

theorem remaining_length_le (s : State) : s.remaining.length ≤ 6 := by
  simp only [State.remaining]
  split
  · decide
  · exact (List.drop_sublist ..).length_le.trans (cyclesOf_length_le _)
  · exact (List.drop_sublist ..).length_le.trans (by decide)

/-- In the middle of a sequence the ticks go on to its end, or both refuse (log 9). -/
theorem stepIsTicks_goOn_or_refused (hinv : s.Inv) (hc : s.tickCase = .goOn) :
    StepIsTicks s ∨ (tick s = .refused .noSuchCycle ∧ step s = .refused .noSuchCycle) := by
  by_cases h0 : s.seq.step = 0#3
  · exact .inr ⟨by rw [tick, hc]; exact if_pos h0, by rw [step, hc]; exact if_pos h0⟩
  have htick : tick s = s.tickSequence := by rw [tick, hc]; exact if_neg h0
  have length_le := remaining_length_le s
  rw [htick, step, hc]
  cases hr : s.remaining with
  | nil => exact .inr ⟨by rw [State.tickSequence, hr], by simp only [State.finish, if_neg h0, hr]⟩
  | cons c rest =>
    have before : s.Before (c :: rest) := ⟨hinv, mode_of_tickCase_goOn hc, h0, hr⟩
    have hstep : step s = .next (runTable [] (c :: rest) s) := by rw [step, hc]; simp only [State.finish, if_neg h0, hr]
    rw [hr] at length_le
    exact .inl ⟨_, _, before.tick, hstep, ticksToBoundary_tick fun he =>
      (before.after_tick he).ticksToBoundary (ne_nil_of_goes_on he) (Nat.le_of_succ_le_succ length_le)⟩

end

/-- Settles O8: the boundary cases are one tick, a sequence that starts or goes on is the ticks that perform its
cycles, and what has no cycle left is refused by both. -/
theorem stepIsTicksToBoundary : Obligations.StepIsTicksToBoundary := by
  intro s hinv
  have both : StepIsTicks s ∨ (tick s = .refused .noSuchCycle ∧ step s = .refused .noSuchCycle) := by
    cases hc : s.tickCase with
    | reset => exact .inl (stepIsTicks_of_boundary (step_and_tick_of_reset hc) rfl)
    | locked => exact .inl (stepIsTicks_of_boundary (step_and_tick_of_locked hc) (hinv.mode_of_idle (.inl hc)))
    | held => exact .inl (stepIsTicks_of_boundary (step_and_tick_of_held hc) (hinv.mode_of_idle (.inr hc)))
    | halted =>
      have boundary : s.haltedTick.seq.mode = .boundary := by rw [s.haltedTick_seq]; exact mode_of_tickCase_halted hc
      exact .inl (stepIsTicks_of_boundary (step_and_tick_of_halted hc) boundary)
    | startService => exact .inl (stepIsTicks_startService hinv hc)
    | startInstr => exact .inl (stepIsTicks_startInstr hinv hc)
    | goOn => exact stepIsTicks_goOn_or_refused hinv hc
  obtain ⟨t, u, htick, hstep, hrun⟩ | ⟨htick, hstep⟩ := both
  · rw [htick, hstep]; exact hrun.symm
  · rw [htick, hstep]

end Sys2Proof.Machine
end

section
/-! The halt glitch before INC r (40_sequencer.md R170, 70_reset_and_hazards.md R481): its c0 leaves PC and consumes the
glitch, so the same byte is fetched again. -/

namespace Sys2Proof.Machine

/-- The instruction fetched is the one whose encoding the bus returns at PC. -/
theorem fetched_of_encode_singleton {s : State} {i : Instr} (hi : WellFormed i = true) (h : s.Undisturbed)
    (hpc : [s.mem.read s.pc] = encode i) : s.fetched = i := by
  have first_byte : s.instrByte 0 = s.mem.read s.pc := by
    rw [State.instrByte_undisturbed 0 h, State.byteAddress_zero]
  have begins : firstInstr ([s.mem.read s.pc] ++ [s.instrByte 1, s.instrByte 2]) = i := by
    rw [hpc]; exact firstInstr_encode hi _
  rw [← begins, State.fetched, first_byte]
  rfl

/-- INC r in an undisturbed state: the register, PC and the glitch, and what the next tick finds. -/
theorem exec_incR {s : State} (h : s.Undisturbed) (r : Reg) : ∃ t, exec (.incR r) s = .next t ∧
    t.readReg r = s.readReg r + 1#8 ∧ t.pc = s.opcodePC ∧ t.haltBug = false ∧ t.mem = s.mem ∧
    t.inputs = s.inputs.drop 1 ∧ t.seq = Sequencer.rest ∧ t.halted = s.halted ∧ t.locked = s.locked ∧
    (s.ime = false → t.irqDetected = s.irqDetected) := by
  refine ⟨_, exec_eq_quietRun (i := .incR r) nofun h, ?_⟩
  have table : cyclesOf (.incR r) = [cOpcode (fun s => (s.writeReg r (inc8 (s.readReg r) s.flags).1).setFlags
      (inc8 (s.readReg r) s.flags).2)] := rfl
  rw [table]
  simp +contextual [quietRun, inc8, encode, List.drop_one]

/-- Settles O24: the glitched fetch leaves PC on INC r, so the next step fetches it once more. -/
theorem haltGlitchRunsNextInstructionTwice : Obligations.HaltGlitchRunsNextInstructionTwice := by
  intro s r starts undisturbed glitch ime reset hold at_pc
  have first_step : step s = exec (.incR r) s := by
    rw [step_of_starts starts, fetched_of_encode_singleton rfl undisturbed at_pc]
  obtain ⟨-, -, locked, -, halted, detected⟩ := starts
  obtain ⟨t, next, reg, pc, no_glitch, mem, inputs, at_rest, halted_kept, locked_kept, detected_kept⟩ :=
    exec_incR undisturbed r
  have pc_kept : t.pc = s.pc := by rw [pc, State.opcodePC, if_pos glitch]
  have sample : t.sampleAt 0 = s.sampleAt 1 := State.sampleAt_of_inputs inputs 0
  have starts_again : t.Starts := ⟨by rw [at_rest]; rfl, sample ▸ reset, locked_kept.trans locked, sample ▸ hold,
    halted_kept.trans halted, (detected_kept ime).trans detected⟩
  have undisturbed_again : t.Undisturbed := undisturbed.drop inputs
  have second_step : step t = exec (.incR r) t := by
    rw [step_of_starts starts_again, fetched_of_encode_singleton rfl undisturbed_again (by rw [mem, pc_kept, at_pc])]
  obtain ⟨u, next', reg', pc', no_glitch', -⟩ := exec_incR undisturbed_again r
  refine ⟨t, u, first_step.trans next, pc_kept, no_glitch, reg, second_step.trans next', ?_, no_glitch', ?_⟩
  · rw [pc', State.opcodePC, no_glitch, if_neg Bool.false_ne_true, pc_kept]
  · rw [reg', reg, BitVec.add_assoc]; rfl

end Sys2Proof.Machine
end

section
/-! How a whole instruction ends (40_sequencer.md R175, R176): a run that writes no control item of its own polls with
the sample of its last tick, so of the cycles it performed only the log is left to say. -/

namespace Sys2Proof.Machine

theorem Performed.inputs {s t : State} {ks : List CycleKind} (h : Performed s t ks) :
    t.inputs = s.inputs.drop ks.length := by
  obtain ⟨cs, -, inputs, rfl⟩ := h
  rwa [List.length_map]

theorem Performed.length_eq {s t : State} {ks : List CycleKind} {cs : List BusCycle} (h : Performed s t ks)
    (hlog : t.log = cs.reverse ++ s.log) : ks.length = cs.length := by
  obtain ⟨cs', log, -, rfl⟩ := h
  rw [List.length_map, List.reverse_inj.1 (List.append_cancel_right (log.symm.trans hlog))]

theorem State.length_fetches (s : State) (bs : List Byte) (k : Nat) : (s.fetches k bs).length = bs.length := by
  induction bs generalizing k with
  | nil => rfl
  | cons b bs ih => rw [State.fetches, List.length_cons, List.length_cons, ih]

section
variable {c : Cycle} {f : Flags} {g : Option Byte} {last : Bool} {s t : State} {n : Nat}

/-- The cycle that completes a sequence polls with its own sample. -/
theorem Cycle.Within.tick_polled (h : c.Within .nothing f) (hm : s.seq.mode = .exec) (he : c.ends g last s = true) :
    Polled s (c.tick g last s) 1 := by
  have frame : ControlFrame .nothing f s (c.run g s) := h.run_frame
  have mode := frame.mode.trans hm
  have sample : s.sampleAt (1 - 1) = s.input := rfl
  rw [Cycle.tick_ends g s he, Polled, PolledWith, sample]
  refine ⟨by simpa using frame.halted rfl, by simpa using frame.locked rfl, ?_⟩
  cases locked : s.locked <;>
    simp [mode, (frame.locked rfl).trans locked, frame.ime rfl, frame.eiPending rfl, frame.irqDetected]

/-- A poll after the cycles left is one tick later than the cycle before them. -/
theorem Cycle.Within.polled_of_goes_on (h : c.Within .nothing f) (he : c.ends g last s = false)
    (inputs : (c.tick g last s).inputs = s.inputs.drop 1) (polled : Polled (c.tick g last s) t (n + 1)) :
    Polled s t (1 + (n + 1)) := by
  have frame : ControlFrame .nothing f s (c.run g s) := h.run_frame
  have sample : (c.tick g last s).sampleAt (n + 1 - 1) = s.sampleAt (1 + (n + 1) - 1) := by
    rw [State.sampleAt_of_inputs inputs]; congr 1
  rw [Polled, PolledWith, sample, Cycle.tick_goes_on g s he] at polled
  simpa [Polled, PolledWith, frame.ime rfl, frame.eiPending rfl, frame.halted rfl, frame.locked rfl,
    frame.irqDetected] using polled

end

/-- A sequence that writes no control item polls with the sample of its last tick. -/
theorem runTable_polled {f : Flags} {table : List Cycle} (hne : table ≠ []) (hin : TableWithin .nothing f table)
    (hb : BlindTable table) (bytes : List Byte) {s : State} (hm : s.seq.mode = .exec) :
    ∃ ks, Performed s (runTable bytes table s) ks ∧ 0 < ks.length ∧ Polled s (runTable bytes table s) ks.length := by
  induction table generalizing bytes s with
  | nil => exact absurd rfl hne
  | cons c rest ih =>
    obtain ⟨hcin, hrin⟩ := tableWithin_cons.1 hin
    obtain ⟨hcb, hrb⟩ := blindTable_cons.1 hb
    generalize hg : (if c.op.takesByte then bytes.head? else none) = g
    have performed := hcb.tick_performed g rest.isEmpty s
    cases he : c.ends g rest.isEmpty s with
    | true =>
      rw [runTable_ends s bytes rest hg.symm he]
      exact ⟨_, performed, Nat.one_pos, hcin.tick_polled hm he⟩
    | false =>
      rw [runTable_goes_on s bytes rest hg.symm he]
      have mode : (c.tick g rest.isEmpty s).seq.mode = .exec := by
        rw [Cycle.tick_goes_on g s he]; exact hcin.run_frame.mode.trans hm
      obtain ⟨ks, performed_rest, pos, polled⟩ := ih (ne_nil_of_goes_on he) hrin hrb
        (if c.op.takesByte then bytes.tail else bytes) mode
      obtain ⟨n, hn⟩ : ∃ n, ks.length = n + 1 := Nat.exists_eq_add_one.2 pos
      refine ⟨_, performed.append performed_rest, by simp, ?_⟩
      rw [List.length_append, hn]
      exact hcin.polled_of_goes_on he performed.inputs (hn ▸ polled)

/-- An instruction that writes no control item ran as `RanInstr` says as soon as the log holds its cycles. -/
theorem ranInstr_of_log {i : Instr} {s t : State} {more : List BusCycle} (hi : WellFormed i = true)
    (hw : controlWritten i = .nothing) (run : exec i s = .next t)
    (log : t.log = (s.fetches 0 (encode i) ++ more).reverse ++ s.log) : RanInstr s t i more := by
  obtain rfl : _ = t := by simpa using (exec_eq_runInstr s (bne_iff_ne.1 hi)).symm.trans run
  have hin := cyclesOf_within i
  rw [hw] at hin
  obtain ⟨ks, performed, -, polled⟩ := runTable_polled (cyclesOf_ne_nil i) hin (cyclesOf_blind i) (encode i)
    (s := s.startInstr) rfl
  have ticks : ks.length = (s.fetches 0 (encode i) ++ more).length := performed.length_eq log
  have inputs := performed.inputs
  rw [ticks] at inputs polled
  refine ⟨⟨runTable_seq (cyclesOf_ne_nil i) _ _, runTable_haltBug_row (by rw [hw]; rfl) _ _, log, inputs⟩, ?_⟩
  rw [List.length_append, State.length_fetches] at polled
  exact polled

end Sys2Proof.Machine
end

section
/-! The addressing modes (30_encoding.md R130 to R137): what has happened when an instruction has fetched its bytes and
formed its effective address, and the cycle that then loads or stores (20_memory.md R61). -/

namespace Sys2Proof.Machine

/-! ### The addresses of an instruction's bytes (40_sequencer.md R170) -/

section
variable (s : State)

theorem State.byteAddress_eq_pcAfter (k : Nat) : s.byteAddress k = s.pcAfter k := by
  cases bug : s.haltBug <;> cases k <;> simp [State.byteAddress, State.pcAfter, bug]

theorem State.opcodePC_eq_pcAfter : s.opcodePC = s.pcAfter 1 := by
  cases bug : s.haltBug <;> simp [State.opcodePC, State.pcAfter, bug]

/-- The halt glitch costs the opcode fetch its increment and no other (40_sequencer.md R170). -/
theorem State.pcAfter_succ {k : Nat} (hk : 0 < k) : s.pcAfter k + 1#16 = s.pcAfter (k + 1) := by
  obtain ⟨k, rfl⟩ := Nat.exists_eq_add_one.2 hk
  cases bug : s.haltBug <;> simp [State.pcAfter, bug, BitVec.add_assoc, BitVec.ofNat_add]

theorem State.fetches_append (bs bs' : List Byte) (k : Nat) :
    s.fetches k (bs ++ bs') = s.fetches k bs ++ s.fetches (k + bs.length) bs' := by
  induction bs generalizing k with
  | nil => rfl
  | cons b bs ih =>
    rw [List.cons_append, State.fetches, State.fetches, ih, List.cons_append, List.length_cons, Nat.add_right_comm,
      Nat.add_assoc]

end

/-! ### On the way to the operand -/

/-- From `s` to `u` the instruction bytes `bs` were fetched and the cycles `more` performed, and nothing else changed
that the program sees. -/
structure Prepared (s u : State) (bs : List Byte) (more : List BusCycle) : Prop where
  regs : u.regs = s.regs
  flags : u.flags = s.flags
  sp : u.sp = s.sp
  mem : u.mem = s.mem
  pc : u.pc = s.pcAfter bs.length
  log : u.log = (s.fetches 0 bs ++ more).reverse ++ s.log

section
variable {s u : State} {bs : List Byte} {more : List BusCycle}

/-- c0 (40_sequencer.md R170). -/
theorem Prepared.opcode (s : State) (b : Byte) : Prepared s ((s.startInstr.sawRead s.pc b).latchOpcode b) [b] [] where
  regs := rfl
  flags := rfl
  sp := rfl
  mem := rfl
  pc := s.opcodePC_eq_pcAfter
  log := by simp [State.fetches, State.byteAddress_zero]

/-- A later instruction byte. -/
theorem Prepared.fetch (h : Prepared s u bs []) (hbs : bs ≠ []) (b : Byte) :
    Prepared s ((u.sawRead u.pc b).setPC (u.pc + 1#16)) (bs ++ [b]) [] where
  regs := h.regs
  flags := h.flags
  sp := h.sp
  mem := h.mem
  pc := by
    rw [State.setPC_pc, h.pc, s.pcAfter_succ (List.length_pos_of_ne_nil hbs), List.length_append, List.length_singleton]
  log := by simp [h.log, h.pc, s.fetches_append, State.fetches, s.byteAddress_eq_pcAfter]

/-- A cycle that moves no instruction byte and writes nothing. -/
theorem Prepared.record (h : Prepared s u bs more) (c : BusCycle) : Prepared s (u.record c) bs (more ++ [c]) :=
  { h with log := by simp [h.log] }

theorem Prepared.setZ (h : Prepared s u bs more) (b : Byte) : Prepared s (u.setZ b) bs more := { h with }

theorem Prepared.setW (h : Prepared s u bs more) (b : Byte) : Prepared s (u.setW b) bs more := { h with }

/-- The tick of a cycle that goes on ends. -/
theorem Prepared.goOn (h : Prepared s u bs more) : Prepared s u.advance.popInput bs more := { h with }

theorem Prepared.readReg (h : Prepared s u bs more) (r : Reg) : u.readReg r = s.readReg r :=
  State.readReg_congr h.regs r

theorem Prepared.readPair (h : Prepared s u bs more) (p : Pair) : u.readPair p = s.readPair p :=
  State.readPair_congr h.regs h.sp p

theorem Prepared.hl (h : Prepared s u bs more) : u.hl = s.hl := h.readPair .hl

end

/-! ### The cycles of a quiet run -/

section
variable (bytes : List Byte) (s : State)

theorem quietRun_last (c : Cycle) : quietRun bytes [c] s =
    ((c.quiet (if c.op.takesByte then bytes.head? else none) s).complete s.input).popInput := by
  simp [quietRun]

theorem quietRun_cons_cons {c : Cycle} (hc : c.stops = neverStops) (c' : Cycle) (rest : List Cycle) :
    quietRun bytes (c :: c' :: rest) s = quietRun (if c.op.takesByte then bytes.tail else bytes) (c' :: rest)
      (c.quiet (if c.op.takesByte then bytes.head? else none) s).advance.popInput := by
  simp [quietRun, hc, neverStops]

end

/-! ### The cycles before the operand -/

section
variable (s : State) (b : Byte) (bytes : List Byte) (c : Cycle) (rest : List Cycle)

/-- The opcode alone: register and register indirect operands (30_encoding.md R130, R135). -/
theorem quietRun_opcode : ∃ u, quietRun (b :: bytes) (c0 :: c :: rest) s.startInstr = quietRun bytes (c :: rest) u ∧
    Prepared s u [b] [] :=
  ⟨_, quietRun_cons_cons _ _ rfl c rest, (Prepared.opcode s b).goOn⟩

/-- One more byte, to the latch z. -/
theorem quietRun_immediate (n : Byte) : ∃ u,
    quietRun (b :: n :: bytes) (c0 :: cFetchZ :: c :: rest) s.startInstr = quietRun bytes (c :: rest) u ∧
    Prepared s u [b, n] [] ∧ u.seq.z = n := by
  obtain ⟨u, run, hu⟩ := quietRun_opcode s b (n :: bytes) cFetchZ (c :: rest)
  exact ⟨_, run.trans (quietRun_cons_cons _ _ rfl c rest), ((hu.fetch (by simp) n).setZ n).goOn, rfl⟩

/-- A 16-bit address in the latches, low byte first (30_encoding.md R136). -/
theorem quietRun_absolute (nn : Word) : ∃ u,
    quietRun (b :: loByte nn :: hiByte nn :: bytes) (c0 :: cFetchZ :: cFetchW :: c :: rest) s.startInstr =
      quietRun bytes (c :: rest) u ∧
    Prepared s u [b, loByte nn, hiByte nn] [] ∧ u.wz = nn := by
  obtain ⟨u, run, hu, z⟩ := quietRun_immediate s b (hiByte nn :: bytes) cFetchW (c :: rest) (loByte nn)
  refine ⟨_, run.trans (quietRun_cons_cons _ _ rfl c rest), ((hu.fetch (by simp) _).setW _).goOn, ?_⟩
  simp [State.wz, z]

/-- The indexed address in the latches after an idle cycle (30_encoding.md R137). -/
theorem quietRun_indexed (d : Byte) : ∃ u,
    quietRun (b :: d :: bytes) (c0 :: cFetchZ :: cIndex :: c :: rest) s.startInstr = quietRun bytes (c :: rest) u ∧
    Prepared s u [b, d] [.idle none] ∧ u.wz = indexedAddress s.hl d := by
  obtain ⟨u, run, hu, z⟩ := quietRun_immediate s b bytes cIndex (c :: rest) d
  refine ⟨_, run.trans (quietRun_cons_cons _ _ rfl c rest), (((hu.record (.idle none)).setW _).setZ _).goOn, ?_⟩
  simp [State.wz, z, hu.hl]

end

/-! ### The loads -/

/-- What a load does: `i` run from `s` puts `v` in `r` and keeps every other register, the flags, SP and memory; after
its own bytes it performs the cycles `more` (41_load8.md). -/
def Loads (s : State) (i : Instr) (r : Reg) (v : Byte) (more : List BusCycle) : Prop :=
  ∃ t, exec i s = .next t ∧ t.readReg r = v ∧ RegsKeptBut s t r ∧ t.flags = s.flags ∧ t.sp = s.sp ∧
    t.pc = s.pcAfter (encode i).length ∧ MemKept s t ∧ RanInstr s t i more

/-- What a store does: `i` run from `s` puts `v` at the address `a` and keeps the rest of memory, the registers, the
flags and SP; after its own bytes and the cycles `more` comes the write (41_load8.md). -/
def Stores (s : State) (i : Instr) (a : Word) (v : Byte) (more : List BusCycle) : Prop :=
  ∃ t, exec i s = .next t ∧ t.mem.read a = v ∧ MemKeptBut s t [a] ∧ RegsKept s t ∧ t.flags = s.flags ∧ t.sp = s.sp ∧
    t.pc = s.pcAfter (encode i).length ∧ RanInstr s t i (more ++ [.write a v])

section
variable {s u : State} {i : Instr} {r : Reg} {v : Byte} {more : List BusCycle} {addr : State → Word}
  (hi : WellFormed i = true) (hw : controlWritten i = .nothing)
include hi hw

/-- An instruction whose only action is to write one register loads it. -/
theorem loads_of_writeReg {inp : TickIn} (run : exec i s = .next ((u.writeReg r v).complete inp).popInput)
    (h : Prepared s u (encode i) more) : Loads s i r v more := by
  refine ⟨_, run, by simp, fun q hq => ?_, by simp [h.flags], by simp [h.sp], by simp [h.pc], fun a => ?_,
    ranInstr_of_log hi hw run (by simp [h.log])⟩
  · simp [State.readReg_writeReg, hq, h.readReg]
  · simp [h.mem]

/-- An instruction whose last cycle reads a byte to a register loads it from there. -/
theorem loads_of_cRead (run : exec i s = .next (quietRun [] [cRead addr (fun b t => t.writeReg r b)] u))
    (h : Prepared s u (encode i) more) :
    Loads s i r (s.mem.read (addr u)) (more ++ [.read (addr u) (s.mem.read (addr u))]) := by
  rw [quietRun_last] at run
  rw [← h.mem]
  exact loads_of_writeReg hi hw run (h.record _)

/-- An instruction whose last cycle writes a byte stores it there. -/
theorem stores_of_cWrite {val : State → Byte} (hwf : s.mem.wf = true)
    (run : exec i s = .next (quietRun [] [cWrite addr val id] u)) (h : Prepared s u (encode i) more) :
    Stores s i (addr u) (val u) more := by
  rw [quietRun_last] at run
  refine ⟨_, run, ?_, fun b hb => ?_, fun q => ?_, by simp [h.flags], by simp [h.sp], by simp [h.pc],
    ranInstr_of_log hi hw run (by simp [h.log])⟩
  · simp [h.mem, Memory.read_write_same hwf]
  · simp [h.mem, Memory.read_write hwf, List.mem_singleton.not.1 hb]
  · simp [h.readReg]

end

end Sys2Proof.Machine
end

section
/-! The 8-bit loads and stores (41_load8.md R200 to R212): each row is an addressing mode and one last cycle. -/

namespace Sys2Proof.Machine

section
variable {s : State} (h : s.Undisturbed)
include h

/-! ### Loading a register (41_load8.md R200, R201, R203, R205, R206, R209, R211) -/

theorem loads_ldRR (dst src : Reg) : Loads s (.ldRR dst src) dst (s.readReg src) [] := by
  have run := exec_eq_quietRun (i := .ldRR dst src) nofun h
  have prepared := Prepared.opcode s (opcodeByte .q1 dst.code src.code)
  rw [← prepared.readReg src]
  exact loads_of_writeReg rfl rfl (run.trans (congrArg _ (quietRun_last _ _ _))) prepared

theorem loads_ldRN (r : Reg) (n : Byte) : Loads s (.ldRN r n) r n [] := by
  have run := exec_eq_quietRun (i := .ldRN r n) nofun h
  obtain ⟨u, run_u, hu⟩ := quietRun_opcode s (opcodeByte .q0 r.code .o6) [n] (cFetch fun b t => t.writeReg r b) []
  exact loads_of_writeReg rfl rfl (run.trans (congrArg _ (run_u.trans (quietRun_last _ _ _)))) (hu.fetch (by simp) n)

/-- The loads through a pair: the opcode, then the read (30_encoding.md R135). -/
theorem loads_indirect {i : Instr} {b : Byte} {p : Pair} {r : Reg} (hi : WellFormed i = true)
    (hw : controlWritten i = .nothing) (bytes : encode i = [b])
    (table : cyclesOf i = loadIndirect p (fun b t => t.writeReg r b)) :
    Loads s i r (s.mem.read (s.readPair p)) [.read (s.readPair p) (s.mem.read (s.readPair p))] := by
  have run := exec_eq_quietRun (bne_iff_ne.1 hi) h
  rw [bytes, table] at run
  obtain ⟨u, run_u, hu⟩ := quietRun_opcode s b [] (cRead (fun t => t.readPair p) fun b t => t.writeReg r b) []
  rw [← hu.readPair p]
  exact loads_of_cRead hi hw (run.trans (congrArg _ run_u)) (bytes ▸ hu)

theorem loads_ldANn (nn : Word) : Loads s (.ldANn nn) .a (s.mem.read nn) [.read nn (s.mem.read nn)] := by
  have run := exec_eq_quietRun (i := .ldANn nn) nofun h
  obtain ⟨u, run_u, hu, wz⟩ := quietRun_absolute s _ [] (cRead State.wz fun b t => t.setA b) [] nn
  have loaded : Loads s (.ldANn nn) .a (s.mem.read u.wz) [.read u.wz (s.mem.read u.wz)] :=
    loads_of_cRead rfl rfl (run.trans (congrArg _ run_u)) hu
  rwa [wz] at loaded

theorem loads_ldAHld (d : Byte) : Loads s (.ldAHld d) .a (s.mem.read (indexedAddress s.hl d))
    [.idle none, .read (indexedAddress s.hl d) (s.mem.read (indexedAddress s.hl d))] := by
  have run := exec_eq_quietRun (i := .ldAHld d) nofun h
  obtain ⟨u, run_u, hu, wz⟩ := quietRun_indexed s _ [] (cRead State.wz fun b t => t.setA b) [] d
  rw [← wz]
  exact loads_of_cRead rfl rfl (run.trans (congrArg _ run_u)) hu

/-! ### Storing a byte (41_load8.md R202, R204, R207, R208, R210, R212) -/

variable (hwf : s.mem.wf = true)
include hwf

/-- The stores through a pair: the opcode, then the write (30_encoding.md R135). -/
theorem stores_indirect {i : Instr} {b : Byte} {p : Pair} {r : Reg} (hi : WellFormed i = true)
    (hw : controlWritten i = .nothing) (bytes : encode i = [b])
    (table : cyclesOf i = storeIndirect p (fun t => t.readReg r)) :
    Stores s i (s.readPair p) (s.readReg r) [] := by
  have run := exec_eq_quietRun (bne_iff_ne.1 hi) h
  rw [bytes, table] at run
  obtain ⟨u, run_u, hu⟩ := quietRun_opcode s b [] (cWrite (fun t => t.readPair p) (fun t => t.readReg r) id) []
  rw [← hu.readPair p, ← hu.readReg r]
  exact stores_of_cWrite hi hw hwf (run.trans (congrArg _ run_u)) (bytes ▸ hu)

theorem stores_ldMN (n : Byte) : Stores s (.ldMN n) s.hl n [] := by
  have run := exec_eq_quietRun (i := .ldMN n) nofun h
  obtain ⟨u, run_u, hu, z⟩ := quietRun_immediate s _ [] (cWrite State.hl (fun t => t.seq.z) id) [] n
  have stored : Stores s (.ldMN n) u.hl u.seq.z [] :=
    stores_of_cWrite rfl rfl hwf (run.trans (congrArg _ run_u)) hu
  rwa [hu.hl, z] at stored

theorem stores_ldNnA (nn : Word) : Stores s (.ldNnA nn) nn (s.readReg .a) [] := by
  have run := exec_eq_quietRun (i := .ldNnA nn) nofun h
  obtain ⟨u, run_u, hu, wz⟩ := quietRun_absolute s _ [] (cWrite State.wz (fun t => t.readReg .a) id) [] nn
  have stored : Stores s (.ldNnA nn) u.wz (u.readReg .a) [] :=
    stores_of_cWrite rfl rfl hwf (run.trans (congrArg _ run_u)) hu
  rwa [wz, hu.readReg] at stored

theorem stores_ldHldA (d : Byte) :
    Stores s (.ldHldA d) (indexedAddress s.hl d) (s.readReg .a) [.idle none] := by
  have run := exec_eq_quietRun (i := .ldHldA d) nofun h
  obtain ⟨u, run_u, hu, wz⟩ := quietRun_indexed s _ [] (cWrite State.wz (fun t => t.readReg .a) id) [] d
  rw [← wz, ← hu.readReg .a]
  exact stores_of_cWrite rfl rfl hwf (run.trans (congrArg _ run_u)) hu

end

/-- Settles O38: the one action of both rows is the write of the destination, after the last instruction byte. -/
theorem loadRegister : Obligations.LoadRegister := fun dst src n _ h =>
  ⟨loads_ldRR h dst src, loads_ldRN h dst n⟩

/-- Settles O39: three loads through a pair, one absolute, one indexed. -/
theorem loadFromMemory : Obligations.LoadFromMemory := fun r nn d _ h =>
  ⟨loads_indirect (i := .ldRM r) (p := .hl) h rfl rfl rfl rfl, loads_indirect (i := .ldABc) (p := .bc) h rfl rfl rfl rfl,
    loads_indirect (i := .ldADe) (p := .de) h rfl rfl rfl rfl, loads_ldANn h nn, loads_ldAHld h d⟩

/-- Settles O40: three stores through a pair, one of an immediate byte, one absolute, one indexed. -/
theorem storeToMemory : Obligations.StoreToMemory := fun r n nn d _ h hwf =>
  ⟨stores_indirect (i := .ldMR r) (p := .hl) h hwf rfl rfl rfl rfl, stores_ldMN h hwf n,
    stores_indirect (i := .ldBcA) (p := .bc) (r := .a) h hwf rfl rfl rfl rfl,
    stores_indirect (i := .ldDeA) (p := .de) (r := .a) h hwf rfl rfl rfl rfl, stores_ldNnA h hwf nn,
    stores_ldHldA h hwf d⟩

end Sys2Proof.Machine
end

section
/-! The 8-bit adder, subtractor and logic as arithmetic on numbers (42_alu8.md R231 to R233, R242, R244). -/

namespace Sys2Proof.Machine

/-! ### The parts of a byte as numbers (00_scope.md R7) -/

section
variable (v : Byte)

theorem getLsbD_seven : v.getLsbD 7 = v.msb := (BitVec.msb_eq_getLsbD_last v).symm

/-- Two bytes have the same sign when both or neither of their numbers reach 128. -/
theorem msb_eq_iff (a v : Byte) : a.msb = v.msb ↔ (128 ≤ a.toNat ↔ 128 ≤ v.toNat) := by
  rw [BitVec.msb_eq_decide, BitVec.msb_eq_decide, decide_eq_decide]

/-- The bits below bit 4. -/
theorem toNat_and_lowNibble : (v &&& 0x0F#8).toNat = v.toNat % 16 := by
  rw [BitVec.toNat_and]
  exact Nat.and_two_pow_sub_one_eq_mod _ 4

/-- The bits below bit 7. -/
theorem toNat_and_belowSign : (v &&& 0x7F#8).toNat = v.toNat % 128 := by
  rw [BitVec.toNat_and]
  exact Nat.and_two_pow_sub_one_eq_mod _ 7

theorem beq_zero_iff : (v == 0#8) = true ↔ v.toNat = 0 := by
  rw [beq_iff_eq, BitVec.toNat_eq]
  rfl

/-- A low nibble is tested on the byte or on the number alike. -/
theorem lowNibble_beq (k : Byte) : (v &&& 0x0F#8 == k) = (v.toNat % 16 == k.toNat) := by
  rw [Bool.eq_iff_iff, beq_iff_eq, beq_iff_eq, BitVec.toNat_eq, toNat_and_lowNibble]

end

/-! ### The adder (42_alu8.md R231) -/

section
variable (a v : Byte) (cin : Bool)

theorem toNat_add8 : (add8 a v cin).1.toNat = (a.toNat + v.toNat + cin.toNat) % 256 := BitVec.toNat_ofNat ..

theorem add8_cf_iff : (add8 a v cin).2.cf = true ↔ 255 < a.toNat + v.toNat + cin.toNat := decide_eq_true_iff

theorem add8_hf_iff : (add8 a v cin).2.hf = true ↔ 15 < a.toNat % 16 + v.toNat % 16 + cin.toNat := decide_eq_true_iff

/-- VF compares the carries out of bits 6 and 7. -/
theorem add8_vf_iff : (add8 a v cin).2.vf = true ↔
    ¬(127 < a.toNat % 128 + v.toNat % 128 + cin.toNat ↔ 255 < a.toNat + v.toNat + cin.toNat) :=
  (bne_iff_ne (α := Bool)).trans (not_congr decide_eq_decide)

/-- Signed overflow: two summands of one sign and a sum of the other. -/
theorem add8_vf_iff_msb : (add8 a v cin).2.vf = true ↔ a.msb = v.msb ∧ (add8 a v cin).1.msb ≠ a.msb := by
  have sum := toNat_add8 a v cin
  have carry := cin.toNat_le
  rw [add8_vf_iff, ne_eq, msb_eq_iff, msb_eq_iff]
  omega

end

/-- Settles O33. -/
theorem adderIsTheRule : Obligations.AdderIsTheRule := by
  intro a v cin
  rw [toNat_and_lowNibble, toNat_and_lowNibble, toNat_and_belowSign, toNat_and_belowSign, add8_cf_iff]
  exact ⟨toNat_add8 a v cin, Iff.rfl, add8_hf_iff a v cin, add8_vf_iff a v cin, add8_vf_iff_msb a v cin,
    getLsbD_seven _, beq_zero_iff _⟩

/-! ### The subtractor (42_alu8.md R232) -/

section
variable (a v : Byte) (bin : Bool)

theorem toNat_sub8 : ((sub8 a v bin).1.toNat : Int) = ((a.toNat : Int) - v.toNat - bin.toNat) % 256 := by
  have pos : 0 ≤ ((a.toNat : Int) - v.toNat - bin.toNat) % 256 := Int.emod_nonneg _ (by decide)
  rw [← Int.toNat_of_nonneg pos]
  exact congrArg _ (BitVec.toNat_ofInt ..)

/-- A difference of natural numbers is negative when there is a borrow. -/
theorem int_borrow_iff (m n b : Nat) : (m : Int) - n - b < 0 ↔ m < n + b := by omega

theorem sub8_cf_iff : (sub8 a v bin).2.cf = true ↔ a.toNat < v.toNat + bin.toNat :=
  decide_eq_true_iff.trans (int_borrow_iff ..)

theorem sub8_hf_iff : (sub8 a v bin).2.hf = true ↔ a.toNat % 16 < v.toNat % 16 + bin.toNat :=
  decide_eq_true_iff.trans (int_borrow_iff ..)

/-- VF compares the borrows out of bits 6 and 7. -/
theorem sub8_vf_iff : (sub8 a v bin).2.vf = true ↔
    ¬(a.toNat % 128 < v.toNat % 128 + bin.toNat ↔ a.toNat < v.toNat + bin.toNat) :=
  (bne_iff_ne (α := Bool)).trans
    (not_congr (decide_eq_decide.trans (iff_congr (int_borrow_iff ..) (int_borrow_iff ..))))

/-- Signed overflow: two operands of different signs and a difference with the sign of the second. -/
theorem sub8_vf_iff_msb : (sub8 a v bin).2.vf = true ↔ a.msb ≠ v.msb ∧ (sub8 a v bin).1.msb = v.msb := by
  have difference := toNat_sub8 a v bin
  have borrow := bin.toNat_le
  rw [sub8_vf_iff, ne_eq, msb_eq_iff, msb_eq_iff]
  omega

end

/-- Settles O34. -/
theorem subtractorIsTheRule : Obligations.SubtractorIsTheRule := by
  intro a v bin
  rw [toNat_and_lowNibble, toNat_and_lowNibble, toNat_and_belowSign, toNat_and_belowSign, sub8_cf_iff]
  exact ⟨toNat_sub8 a v bin, Iff.rfl, sub8_hf_iff a v bin, sub8_vf_iff a v bin, sub8_vf_iff_msb a v bin,
    getLsbD_seven _, beq_zero_iff _⟩

/-! ### Logic, increment and decrement (42_alu8.md R233, R242, R244) -/

theorem logicFlags_eq (r : Byte) : logicFlags r = ⟨r.msb, r == 0#8, false, false, false⟩ := by
  rw [logicFlags, getLsbD_seven]

/-- Settles O35: each operation is its function by definition, with the flags of a logical result written out. -/
theorem aluOperationsAreTheRules : Obligations.AluOperationsAreTheRules := fun _ _ _ =>
  ⟨rfl, rfl, rfl, rfl, rfl, congrArg (Prod.mk _) (logicFlags_eq _), congrArg (Prod.mk _) (logicFlags_eq _),
    congrArg (Prod.mk _) (logicFlags_eq _)⟩

theorem inc8_eq (v : Byte) (f : Flags) : inc8 v f =
    (v + 1#8, ⟨(v + 1#8).msb, v + 1#8 == 0#8, v &&& 0x0F#8 == 0x0F#8, v == 0x7F#8, f.cf⟩) := by
  rw [lowNibble_beq, ← getLsbD_seven]
  rfl

theorem dec8_eq (v : Byte) (f : Flags) : dec8 v f =
    (v - 1#8, ⟨(v - 1#8).msb, v - 1#8 == 0#8, v &&& 0x0F#8 == 0x00#8, v == 0x80#8, f.cf⟩) := by
  rw [lowNibble_beq, ← getLsbD_seven]
  rfl

end Sys2Proof.Machine
end

section
/-! The rows that compute: the cycle in which a row acts, and what a machine is left with by an action on a register and
the flags, on the flags alone, and on the byte at HL (42_alu8.md R230, R242, R243). -/

namespace Sys2Proof.Machine

/-! ### The row of an instruction -/

/-- The row of `i` with its bytes and its cycle table; it writes no control item. -/
structure DataRow (i : Instr) (bytes : List Byte) (table : List Cycle) : Prop where
  complete : WellFormed i = true
  control : controlWritten i = .nothing
  bytes : encode i = bytes
  table : cyclesOf i = table

section
variable {s : State} {i : Instr} {b n : Byte} {bytes : List Byte} {table : List Cycle} {act : State → State}
  {take : Byte → State → State}

theorem DataRow.length (row : DataRow i bytes table) : (encode i).length = bytes.length := congrArg _ row.bytes

variable (h : s.Undisturbed)
include h

theorem DataRow.exec_eq (row : DataRow i bytes table) : exec i s = .next (quietRun bytes table s.startInstr) := by
  rw [exec_eq_quietRun (bne_iff_ne.1 row.complete) h, row.bytes, row.table]

/-- A row of one cycle acts after its opcode fetch (30_encoding.md R131). -/
theorem DataRow.exec_opcode (row : DataRow i [b] [cOpcode act]) : ∃ u inp,
    exec i s = .next ((act u).complete inp).popInput ∧ Prepared s u (encode i) [] :=
  ⟨_, _, (row.exec_eq h).trans (congrArg _ (quietRun_last ..)), by rw [row.bytes]; exact Prepared.opcode s b⟩

/-- A row that reads the byte at HL acts on it after the read (30_encoding.md R135). -/
theorem DataRow.exec_memory (row : DataRow i [b] [c0, cRead State.hl take]) : ∃ u inp,
    exec i s = .next ((take (s.mem.read s.hl) u).complete inp).popInput ∧
    Prepared s u (encode i) [.read s.hl (s.mem.read s.hl)] := by
  obtain ⟨u, run, hu⟩ := quietRun_opcode s b [] (cRead State.hl take) []
  rw [← hu.hl, ← hu.mem, row.bytes]
  exact ⟨_, _, (row.exec_eq h).trans (congrArg _ (run.trans (quietRun_last ..))), hu.record _⟩

/-- A row with an immediate byte acts on it after fetching it (30_encoding.md R133). -/
theorem DataRow.exec_immediate (row : DataRow i [b, n] [c0, cFetch take]) : ∃ u inp,
    exec i s = .next ((take n u).complete inp).popInput ∧ Prepared s u (encode i) [] := by
  obtain ⟨u, run, hu⟩ := quietRun_opcode s b [n] (cFetch take) []
  rw [row.bytes]
  exact ⟨_, _, (row.exec_eq h).trans (congrArg _ (run.trans (quietRun_last ..))), hu.fetch (by simp) n⟩

end

/-! ### What an operation leaves -/

/-- What an operation on a register does: `i` run from `s` puts `result` in `r` and in the flags and keeps every other
register, SP and memory; after its own bytes it performs the cycles `more` (42_alu8.md R230, R242). -/
def Computes (s : State) (i : Instr) (r : Reg) (result : Byte × Flags) (more : List BusCycle) : Prop :=
  ∃ t, exec i s = .next t ∧ t.readReg r = result.1 ∧ RegsKeptBut s t r ∧ t.flags = result.2 ∧ t.sp = s.sp ∧
    t.pc = s.pcAfter (encode i).length ∧ MemKept s t ∧ RanInstr s t i more

/-- What an operation on the flags does: `i` run from `s` leaves the flags `f` and keeps the registers, SP and memory
(42_alu8.md R247, R248). -/
def SetsFlags (s : State) (i : Instr) (f : Flags) : Prop :=
  ∃ t, exec i s = .next t ∧ t.flags = f ∧ RegsKept s t ∧ t.sp = s.sp ∧ t.pc = s.pcAfter (encode i).length ∧
    MemKept s t ∧ RanInstr s t i []

/-- What a read-modify-write does: `i` run from `s` puts `result` at HL and in the flags and keeps the rest of memory,
the registers and SP; after its own bytes it reads at HL and writes there (42_alu8.md R243). -/
def Modifies (s : State) (i : Instr) (result : Byte × Flags) : Prop :=
  ∃ t, exec i s = .next t ∧ t.mem.read s.hl = result.1 ∧ MemKeptBut s t [s.hl] ∧ t.flags = result.2 ∧ RegsKept s t ∧
    t.sp = s.sp ∧ t.pc = s.pcAfter (encode i).length ∧
    RanInstr s t i [.read s.hl (s.mem.read s.hl), .write s.hl result.1]

section
variable {s u : State} {i : Instr} {r : Reg} {result : Byte × Flags} {f : Flags} {more : List BusCycle}
  {bytes : List Byte} {table : List Cycle} {inp : TickIn} (row : DataRow i bytes table)
include row

/-- A row whose action writes one register and the flags. -/
theorem DataRow.computes (run : exec i s = .next ((((u.writeReg r result.1).setFlags result.2).complete inp).popInput))
    (h : Prepared s u (encode i) more) : Computes s i r result more := by
  refine ⟨_, run, by simp, fun q hq => ?_, by simp, by simp [h.sp], by simp [h.pc], fun a => ?_,
    ranInstr_of_log row.complete row.control run (by simp [h.log])⟩
  · simp [State.readReg_writeReg, hq, h.readReg]
  · simp [h.mem]

/-- A row whose action writes the flags alone. -/
theorem DataRow.setsFlags (run : exec i s = .next (((u.setFlags f).complete inp).popInput))
    (h : Prepared s u (encode i) []) : SetsFlags s i f := by
  refine ⟨_, run, by simp, fun q => ?_, by simp [h.sp], by simp [h.pc], fun a => ?_,
    ranInstr_of_log row.complete row.control run (by simp [h.log])⟩
  · simp [h.readReg]
  · simp [h.mem]

/-- A row whose action is an operation of the two-operand family: its result goes to A (42_alu8.md R230). -/
theorem DataRow.computes_operate {op : AluOp} {v : Byte}
    (run : exec i s = .next (((u.operate op v).complete inp).popInput)) (h : Prepared s u (encode i) more) :
    Computes s i .a (aluResult op (s.readReg .a) v s.flags.cf) more := by
  rw [← h.readReg .a, ← h.flags]
  exact row.computes run h

/-- A row whose last two cycles modify the byte at HL. -/
theorem DataRow.modifies {op : Byte → Flags → Byte × Flags} (hwf : s.mem.wf = true)
    (run : exec i s = .next (quietRun [] (modifyHL op) u)) (h : Prepared s u (encode i) []) :
    Modifies s i (op (s.mem.read s.hl) s.flags) := by
  rw [modifyHL, quietRun_cons_cons _ _ rfl, quietRun_last] at run
  refine ⟨_, run, ?_, fun a ha => ?_, by simp [h.flags, h.mem, h.hl], fun q => ?_, by simp [h.sp], by simp [h.pc],
    ranInstr_of_log row.complete row.control run (by simp [h.log, h.flags, h.mem, h.hl])⟩
  · simp [h.flags, h.mem, h.hl, Memory.read_write_same hwf]
  · simp [h.mem, h.hl, Memory.read_write hwf, List.mem_singleton.not.1 ha]
  · simp [h.readReg]

end

end Sys2Proof.Machine
end

section
/-! The 8-bit arithmetic, logic and flag rows (42_alu8.md R230 to R248, 46_system.md R338, R339). -/

namespace Sys2Proof.Machine

/-! ### The two-operand operations (42_alu8.md R230, R234 to R241) -/

section
variable {s : State} {i : Instr} {b : Byte} (h : s.Undisturbed)
include h

theorem computes_aluRegister {op : AluOp} {r : Reg} (row : DataRow i [b] (aluRegister op r)) :
    Computes s i .a (aluResult op (s.readReg .a) (s.readReg r) s.flags.cf) [] := by
  obtain ⟨u, inp, run, hu⟩ := row.exec_opcode h
  rw [← hu.readReg r]
  exact row.computes_operate run hu

theorem computes_aluMemory {op : AluOp} (row : DataRow i [b] (aluMemory op)) :
    Computes s i .a (aluResult op (s.readReg .a) (s.mem.read s.hl) s.flags.cf) [.read s.hl (s.mem.read s.hl)] := by
  obtain ⟨u, inp, run, hu⟩ := row.exec_memory h
  exact row.computes_operate run (hu.setZ _)

theorem computes_aluImmediate {op : AluOp} {n : Byte} (row : DataRow i [b, n] (aluImmediate op)) :
    Computes s i .a (aluResult op (s.readReg .a) n s.flags.cf) [] := by
  obtain ⟨u, inp, run, hu⟩ := row.exec_immediate h
  exact row.computes_operate run (hu.setZ _)

/-! ### One operand, in a register or at HL (42_alu8.md R242 to R245) -/

theorem computes_stepRegister {op : Byte → Flags → Byte × Flags} {r : Reg} (row : DataRow i [b] (stepRegister op r)) :
    Computes s i r (op (s.readReg r) s.flags) [] := by
  obtain ⟨u, inp, run, hu⟩ := row.exec_opcode h
  rw [← hu.readReg r, ← hu.flags]
  exact row.computes run hu

theorem modifies_stepMemory {op : Byte → Flags → Byte × Flags} (hwf : s.mem.wf = true)
    (row : DataRow i [b] (c0 :: modifyHL op)) : Modifies s i (op (s.mem.read s.hl) s.flags) := by
  obtain ⟨u, run, hu⟩ := quietRun_opcode s b [] (cRead State.hl fun b t => t.setZ b) (modifyHL op).tail
  exact row.modifies hwf ((row.exec_eq h).trans (congrArg _ run)) (row.bytes ▸ hu)

end

theorem dataRow_aluOnReg (op : AluOp) (r : Reg) : ∃ b, DataRow (aluOnReg r op) [b] (aluRegister op r) := by
  cases op <;> exact ⟨_, rfl, rfl, rfl, rfl⟩

theorem dataRow_aluOnMem (op : AluOp) : ∃ b, DataRow (aluOnMem op) [b] (aluMemory op) := by
  cases op <;> exact ⟨_, rfl, rfl, rfl, rfl⟩

theorem dataRow_aluOnImm (op : AluOp) (n : Byte) : ∃ b, DataRow (aluOnImm n op) [b, n] (aluImmediate op) := by
  cases op <;> exact ⟨_, rfl, rfl, rfl, rfl⟩

/-- The result of a two-operand operation as a pair: A and the flags, and PC after the row's bytes. -/
theorem Computes.a_and_flags {s : State} {i : Instr} {result : Byte × Flags} {more : List BusCycle} {bytes : List Byte}
    {table : List Cycle} (h : Computes s i .a result more) (row : DataRow i bytes table) :
    ∃ t, exec i s = .next t ∧ (t.readReg .a, t.flags) = result ∧ RegsKeptBut s t .a ∧ t.sp = s.sp ∧
      t.pc = s.pcAfter bytes.length ∧ MemKept s t ∧ RanInstr s t i more := by
  obtain ⟨t, run, a, others, flags, sp, pc, mem, ran⟩ := h
  exact ⟨t, run, Prod.ext a flags, others, sp, row.length ▸ pc, mem, ran⟩

/-- Settles O42: the operations differ in the row's bytes alone, and the three forms in the operand's way to the
operation. -/
theorem aluOnRegisterMemoryImmediate : Obligations.AluOnRegisterMemoryImmediate := by
  intro op r n s h
  obtain ⟨_, onReg⟩ := dataRow_aluOnReg op r
  obtain ⟨_, onMem⟩ := dataRow_aluOnMem op
  obtain ⟨_, onImm⟩ := dataRow_aluOnImm op n
  exact ⟨(computes_aluRegister h onReg).a_and_flags onReg, (computes_aluMemory h onMem).a_and_flags onMem,
    (computes_aluImmediate h onImm).a_and_flags onImm⟩

/-- Settles O43: the two functions on bytes, in a register and at HL. -/
theorem incrementDecrementByte : Obligations.IncrementDecrementByte := by
  intro r s h hwf
  have incR : Computes s (.incR r) r (inc8 (s.readReg r) s.flags) [] := computes_stepRegister h ⟨rfl, rfl, rfl, rfl⟩
  have decR : Computes s (.decR r) r (dec8 (s.readReg r) s.flags) [] := computes_stepRegister h ⟨rfl, rfl, rfl, rfl⟩
  have incM : Modifies s .incM (inc8 (s.mem.read s.hl) s.flags) := modifies_stepMemory h hwf ⟨rfl, rfl, rfl, rfl⟩
  have decM : Modifies s .decM (dec8 (s.mem.read s.hl) s.flags) := modifies_stepMemory h hwf ⟨rfl, rfl, rfl, rfl⟩
  rw [inc8_eq] at incR incM
  rw [dec8_eq] at decR decM
  exact ⟨incR, decR, incM, decM⟩

/-! ### A and the flags (42_alu8.md R246 to R248, 46_system.md R338, R339) -/

section
variable {s : State} {i : Instr} {b : Byte} (h : s.Undisturbed)
include h

/-- A row of one cycle that sets A from A and the flags. -/
theorem loads_of_setA {v : Byte → Flags → Byte}
    (row : DataRow i [b] [cOpcode fun t => t.setA (v t.regs.a t.flags)]) :
    Loads s i .a (v (s.readReg .a) s.flags) [] := by
  obtain ⟨u, inp, run, hu⟩ := row.exec_opcode h
  rw [← hu.readReg .a, ← hu.flags]
  exact loads_of_writeReg row.complete row.control run hu

/-- A row of one cycle that sets the flags from A and the flags. -/
theorem setsFlags_of_setFlags {f : Byte → Flags → Flags}
    (row : DataRow i [b] [cOpcode fun t => t.setFlags (f t.regs.a t.flags)]) :
    SetsFlags s i (f (s.readReg .a) s.flags) := by
  obtain ⟨u, inp, run, hu⟩ := row.exec_opcode h
  rw [← hu.readReg .a, ← hu.flags]
  exact row.setsFlags run hu

theorem loads_cpl : Loads s .cpl .a (~~~(s.readReg .a)) [] :=
  loads_of_setA (v := fun a _ => ~~~a) h ⟨rfl, rfl, rfl, rfl⟩

theorem loads_ldAF : Loads s .ldAF .a (pack s.flags) [] :=
  loads_of_setA (v := fun _ f => pack f) h ⟨rfl, rfl, rfl, rfl⟩

theorem setsFlags_scf : SetsFlags s .scf { s.flags with cf := true } :=
  setsFlags_of_setFlags (f := fun _ f => { f with cf := true }) h ⟨rfl, rfl, rfl, rfl⟩

theorem setsFlags_ccf : SetsFlags s .ccf { s.flags with cf := !s.flags.cf } :=
  setsFlags_of_setFlags (f := fun _ f => { f with cf := !f.cf }) h ⟨rfl, rfl, rfl, rfl⟩

theorem setsFlags_ldFA : SetsFlags s .ldFA (unpack (s.readReg .a)) :=
  setsFlags_of_setFlags (f := fun a _ => unpack a) h ⟨rfl, rfl, rfl, rfl⟩

end

/-- Settles O44: CPL and LD A,F load A, the other three rows set the flags. -/
theorem complementCarryAndFlagByte : Obligations.ComplementCarryAndFlagByte := by
  intro s h
  refine ⟨loads_cpl h, setsFlags_scf h, setsFlags_ccf h, ?_, ?_⟩
  · obtain ⟨t, run, a, others, flags, sp, pc, mem, ran⟩ := loads_ldAF h
    exact ⟨t, run, a, others, flags, sp, mem, pc, ran⟩
  · obtain ⟨t, run, flags, regs, sp, pc, mem, ran⟩ := setsFlags_ldFA h
    exact ⟨t, run, flags, regs, sp, mem, pc, ran⟩

end Sys2Proof.Machine
end

section
/-! Writing a whole pair, and the stack (43_load16_stack.md R270 to R275, 20_memory.md R80): the state on the way through
the pushes and pops of a row, what PUSH and POP leave, and the round trip. -/

namespace Sys2Proof.Machine

/-! ### Words and pairs -/

theorem word_sub_one_sub_one (a : Word) : a - 1#16 - 1#16 = a - 2#16 := by bv_omega

theorem word_sub_two_add_one (a : Word) : a - 2#16 + 1#16 = a - 1#16 := by bv_omega

theorem word_add_one_add_one (a : Word) : a + 1#16 + 1#16 = a + 2#16 := by bv_omega

/-- The two bytes of a pushed word have different addresses. -/
theorem word_sub_one_ne_sub_two (a : Word) : a - 1#16 ≠ a - 2#16 := by bv_omega

theorem PairQ.toPair_ne {p q : PairQ} (h : p ≠ q) : p.toPair ≠ q.toPair := by
  revert h
  cases p <;> cases q <;> decide

/-- The pairs of PUSH and POP are made of registers, so SP has no part in their value (10_state.md R33). -/
theorem State.readPair_toPair_congr {s t : State} (h : t.regs = s.regs) (q : PairQ) :
    t.readPair q.toPair = s.readPair q.toPair := by
  cases q <;> simp only [PairQ.toPair, State.readPair, h]

@[simp] theorem State.writePair_toPair_sp (s : State) (q : PairQ) (v : Word) : (s.writePair q.toPair v).sp = s.sp := by
  cases q <;> rfl

theorem State.writePair_regs_congr {s t : State} (h : t.regs = s.regs) (p : Pair) (v : Word) :
    (t.writePair p v).regs = (s.writePair p v).regs := by
  cases p <;> simp only [State.writePair, h]

theorem State.writePair_sp_congr {s t : State} (h : t.sp = s.sp) (p : Pair) (v : Word) :
    (t.writePair p v).sp = (s.writePair p v).sp := by
  cases p <;> simp only [State.writePair, h]

/-- AF is A and the flags (10_state.md R35). -/
theorem State.writeAF_eq (s : State) (v : Word) :
    s.writeAF v = (s.writeReg .a (hiByte v)).setFlags (unpack (loByte v)) := rfl

/-! ### Loading a pair (43_load16_stack.md R270, R271) -/

/-- What a row that writes one pair does: `i` run from `s` puts `v` in `p` and keeps the flags, memory and every other
register; after its own bytes it performs the cycles `more`. -/
def WritesPair (s : State) (i : Instr) (p : Pair) (v : Word) (more : List BusCycle) : Prop :=
  ∃ t, exec i s = .next t ∧ t.regs = (s.writePair p v).regs ∧ t.flags = s.flags ∧ t.sp = (s.writePair p v).sp ∧
    t.pc = s.pcAfter (encode i).length ∧ MemKept s t ∧ RanInstr s t i more

section
variable {s : State} {i : Instr} {b : Byte} {p : Pair} {more : List BusCycle}

/-- A row whose action writes one pair. -/
theorem DataRow.writesPair {u : State} {inp : TickIn} {v : Word} {bytes : List Byte} {table : List Cycle}
    (row : DataRow i bytes table) (run : exec i s = .next (((u.writePair p v).complete inp).popInput))
    (h : Prepared s u (encode i) more) : WritesPair s i p v more := by
  refine ⟨_, run, ?_, by simp [h.flags], ?_, by simp [h.pc], fun a => by simp [h.mem],
    ranInstr_of_log row.complete row.control run (by simp [h.log])⟩
  · simpa using State.writePair_regs_congr h.regs p v
  · simpa using State.writePair_sp_congr h.sp p v

variable (h : s.Undisturbed)
include h

/-- A row of one byte that writes a pair in the idle cycle after its opcode. -/
theorem DataRow.writesPair_idle {value : State → Word}
    (row : DataRow i [b] [c0, cIdle fun t => t.writePair p (value t)])
    (congr : ∀ t : State, t.regs = s.regs → t.sp = s.sp → value t = value s) :
    WritesPair s i p (value s) [.idle none] := by
  obtain ⟨u, run, hu⟩ := quietRun_opcode s b [] (cIdle fun t => t.writePair p (value t)) []
  have idled : Prepared s (u.record (.idle none)) (encode i) [.idle none] := row.bytes ▸ hu.record _
  rw [← congr _ idled.regs idled.sp]
  exact row.writesPair ((row.exec_eq h).trans (congrArg _ (run.trans (quietRun_last ..)))) idled

/-- A row with an immediate word acts on it after fetching its high byte, the low one waiting in the latch z
(30_encoding.md R134). -/
theorem DataRow.exec_word {nn : Word} {take : Word → State → State}
    (row : DataRow i [b, loByte nn, hiByte nn] [c0, cFetchZ, cFetch fun hi t => take (t.setW hi).wz (t.setW hi)]) :
    ∃ u inp, exec i s = .next ((take nn u).complete inp).popInput ∧ Prepared s u (encode i) [] := by
  obtain ⟨u, run, hu, z⟩ := quietRun_immediate s b [hiByte nn]
    (cFetch fun hi t => take (t.setW hi).wz (t.setW hi)) [] (loByte nn)
  have word : (((u.sawRead u.pc (hiByte nn)).setPC (u.pc + 1#16)).setW (hiByte nn)).wz = nn := by simp [State.wz, z]
  refine ⟨_, u.input, ?_, by rw [row.bytes]; exact (hu.fetch (by simp) (hiByte nn)).setW (hiByte nn)⟩
  rw [row.exec_eq h, run, quietRun_last, cFetch_takesByte, if_pos rfl, List.head?_cons, cFetch_quiet, word]

theorem writesPair_ldPpNn (p : Pair) (nn : Word) : WritesPair s (.ldPpNn p nn) p nn [] := by
  have row : DataRow (.ldPpNn p nn) [_, loByte nn, hiByte nn] (cyclesLdPpNn p) := ⟨rfl, rfl, rfl, rfl⟩
  obtain ⟨u, inp, run, hu⟩ := DataRow.exec_word (take := fun v t => t.writePair p v) h row
  exact row.writesPair run hu

theorem writesPair_ldSpHl : WritesPair s .ldSpHl .sp s.hl [.idle none] :=
  DataRow.writesPair_idle (value := State.hl) h ⟨rfl, rfl, rfl, rfl⟩
    fun _ regs sp => State.readPair_congr regs sp .hl

end

/-- Settles O45: both rows write one pair, SP being the fourth. -/
theorem loadPairAndStackPointer : Obligations.LoadPairAndStackPointer := by
  intro nn s h
  refine ⟨writesPair_ldPpNn h .bc nn, writesPair_ldPpNn h .de nn, writesPair_ldPpNn h .hl nn, ?_, ?_⟩
  · obtain ⟨t, run, regs, flags, sp, rest⟩ := writesPair_ldPpNn h .sp nn
    exact ⟨t, run, sp, regs, flags, rest⟩
  · obtain ⟨t, run, regs, flags, sp, rest⟩ := writesPair_ldSpHl h
    exact ⟨t, run, sp, regs, flags, rest⟩

/-! ### On the way through the stack (20_memory.md R80) -/

/-- As `Prepared`, for a row that has moved SP to `sp` and made memory `mem`. -/
structure Stacked (s u : State) (bs : List Byte) (more : List BusCycle) (sp : Word) (mem : Memory) : Prop where
  regs : u.regs = s.regs
  flags : u.flags = s.flags
  sp : u.sp = sp
  mem : u.mem = mem
  pc : u.pc = s.pcAfter bs.length
  log : u.log = (s.fetches 0 bs ++ more).reverse ++ s.log

/-- Memory after a push of `v`: high byte first (20_memory.md R80). -/
def State.memPushed (s : State) (v : Word) : Memory :=
  (s.mem.write (s.sp - 1#16) (hiByte v)).write (s.sp - 2#16) (loByte v)

section
variable {s u : State} {bs : List Byte} {more : List BusCycle} {sp : Word} {mem : Memory}

theorem Prepared.stacked (h : Prepared s u bs more) : Stacked s u bs more s.sp s.mem := { h with }

theorem Stacked.goOn (h : Stacked s u bs more sp mem) : Stacked s u.advance.popInput bs more sp mem := { h with }

theorem Stacked.setZ (h : Stacked s u bs more sp mem) (b : Byte) : Stacked s (u.setZ b) bs more sp mem := { h with }

theorem Stacked.setW (h : Stacked s u bs more sp mem) (b : Byte) : Stacked s (u.setW b) bs more sp mem := { h with }

/-- `Push(b)`. -/
theorem Stacked.push (h : Stacked s u bs more sp mem) (b : Byte) :
    Stacked s ((u.setSP (u.sp - 1#16)).busWrite (u.sp - 1#16) b) bs (more ++ [.write (sp - 1#16) b]) (sp - 1#16)
      (mem.write (sp - 1#16) b) where
  regs := h.regs
  flags := h.flags
  sp := by simp [h.sp]
  mem := by simp [h.sp, h.mem]
  pc := h.pc
  log := by simp [h.log, h.sp]

/-- `Pop()`. -/
theorem Stacked.pop (h : Stacked s u bs more sp mem) :
    Stacked s ((u.sawRead u.sp (u.mem.read u.sp)).setSP (u.sp + 1#16)) bs (more ++ [.read sp (mem.read sp)])
      (sp + 1#16) mem where
  regs := h.regs
  flags := h.flags
  sp := by simp [h.sp]
  mem := h.mem
  pc := h.pc
  log := by simp [h.log, h.sp, h.mem]


/-- A push of a half of `v`. What is pushed may come from the registers, the flags and PC, so an earlier push has not
changed it. -/
theorem Stacked.quiet_cPush {value : State → Word} {v : Word} (h : Stacked s u bs more sp mem)
    (saved : ∀ t : State, t.regs = s.regs → t.flags = s.flags → t.pc = s.pcAfter bs.length → value t = v)
    (half : Word → Byte) (act : State → State) : ∃ w, (cPush (fun t => half (value t)) act).quiet none u = act w ∧
    Stacked s w bs (more ++ [.write (sp - 1#16) (half v)]) (sp - 1#16) (mem.write (sp - 1#16) (half v)) :=
  ⟨_, by rw [cPush_quiet, saved u h.regs h.flags h.pc], h.push (half v)⟩

/-- A sequence that ends in the pushes of the two halves of `v` and then acts. -/
theorem Prepared.quietRun_push {value : State → Word} {v : Word} (h : Prepared s u bs more)
    (saved : ∀ t : State, t.regs = s.regs → t.flags = s.flags → t.pc = s.pcAfter bs.length → value t = v)
    (bytes : List Byte) (act : State → State) : ∃ w inp,
    quietRun bytes [cPush (fun t => hiByte (value t)) id, cPush (fun t => loByte (value t)) act] u =
      ((act w).complete inp).popInput ∧
    Stacked s w bs (more ++ s.pushes v) (s.sp - 2#16) (s.memPushed v) := by
  obtain ⟨w₁, high, h₁⟩ := h.stacked.quiet_cPush saved hiByte id
  obtain ⟨w₂, low, h₂⟩ := h₁.goOn.quiet_cPush saved loByte act
  rw [word_sub_one_sub_one, List.append_assoc] at h₂
  refine ⟨w₂, w₁.advance.popInput.input, ?_, h₂⟩
  rw [quietRun_cons_cons _ _ rfl, quietRun_last, cPush_takesByte, cPush_takesByte, if_neg Bool.false_ne_true,
    if_neg Bool.false_ne_true, high, id, low]

/-- The first pop of a word leaves its low byte in the latch z. -/
theorem Prepared.quietRun_popZ (h : Prepared s u bs more) (bytes : List Byte) (c : Cycle) (rest : List Cycle) :
    ∃ w, quietRun bytes (cPopZ :: c :: rest) u = quietRun bytes (c :: rest) w ∧
      Stacked s w bs (more ++ [.read s.sp (s.mem.read s.sp)]) (s.sp + 1#16) s.mem ∧ w.seq.z = s.mem.read s.sp :=
  ⟨_, quietRun_cons_cons _ _ rfl c rest, (h.stacked.pop.setZ _).goOn, by simp [h.sp, h.mem]⟩

/-- A sequence that ends in the pops of the two halves of a word and then acts on the word. -/
theorem Prepared.quietRun_pop (h : Prepared s u bs more) (bytes : List Byte) (take : Word → State → State) :
    ∃ w inp, quietRun bytes [cPopZ, cPop fun hi t => take (t.setW hi).wz (t.setW hi)] u =
      ((take s.top w).complete inp).popInput ∧ Stacked s w bs (more ++ s.pops) (s.sp + 2#16) s.mem := by
  obtain ⟨w, run, hw, z⟩ := h.quietRun_popZ bytes (cPop fun hi t => take (t.setW hi).wz (t.setW hi)) []
  have popped := hw.pop.setW (w.mem.read w.sp)
  have word : (((w.sawRead w.sp (w.mem.read w.sp)).setSP (w.sp + 1#16)).setW (w.mem.read w.sp)).wz = s.top := by
    simp [State.wz, State.top, z, hw.sp, hw.mem]
  rw [word_add_one_add_one, List.append_assoc] at popped
  refine ⟨_, w.input, ?_, popped⟩
  rw [run, quietRun_last, cPop_takesByte, if_neg Bool.false_ne_true, cPop_quiet, word]

end

/-! ### What a push leaves (43_load16_stack.md R272, R274) -/

theorem State.read_memPushed {s : State} (hwf : s.mem.wf = true) (v : Word) (a : Word) : (s.memPushed v).read a =
    if a = s.sp - 2#16 then loByte v else if a = s.sp - 1#16 then hiByte v else s.mem.read a := by
  rw [State.memPushed, Memory.read_write (Memory.wf_write hwf _ _), Memory.read_write hwf]

theorem pushed_of_mem {s t : State} {v : Word} (hwf : s.mem.wf = true) (sp : t.sp = s.sp - 2#16)
    (mem : t.mem = s.memPushed v) : Pushed s t v := by
  refine ⟨sp, ?_, ?_, fun a ha => ?_⟩
  · rw [mem, State.read_memPushed hwf, if_neg (word_sub_one_ne_sub_two s.sp), if_pos rfl]
  · rw [mem, State.read_memPushed hwf, if_pos rfl]
  · obtain ⟨above, below⟩ : a ≠ s.sp - 1#16 ∧ a ≠ s.sp - 2#16 := by simpa using ha
    rw [mem, State.read_memPushed hwf, if_neg below, if_neg above]

section
variable {s t : State} {v : Word} (h : Pushed s t v)
include h

theorem Pushed.read_sp : t.mem.read t.sp = loByte v := by
  obtain ⟨sp, -, low, -⟩ := h
  rw [sp, low]

theorem Pushed.read_sp_add_one : t.mem.read (t.sp + 1#16) = hiByte v := by
  obtain ⟨sp, high, -, -⟩ := h
  rw [sp, word_sub_two_add_one, high]

/-- The word on top of the stack is the one last pushed. -/
theorem Pushed.top : t.top = v := by
  rw [State.top, h.read_sp, h.read_sp_add_one, joinBytes_halves]

/-- SP after popping what was pushed. -/
theorem Pushed.sp_add_two : t.sp + 2#16 = s.sp := by
  obtain ⟨sp, -⟩ := h
  rw [sp, BitVec.sub_add_cancel]

end

/-- What a PUSH does: `i` run from `s` pushes `v` after an idle cycle and keeps the registers and the flags. -/
def Pushes (s : State) (i : Instr) (v : Word) : Prop :=
  ∃ t, exec i s = .next t ∧ Pushed s t v ∧ t.regs = s.regs ∧ t.flags = s.flags ∧
    t.pc = s.pcAfter (encode i).length ∧ RanInstr s t i (.idle none :: s.pushes v)

section
variable {s : State} {i : Instr} {b : Byte} (h : s.Undisturbed)
include h

/-- A row that pushes a word made of the registers and the flags. -/
theorem DataRow.pushes {value : State → Word} (hwf : s.mem.wf = true) (row : DataRow i [b]
      [c0, cIdle id, cPush (fun t => hiByte (value t)) id, cPush (fun t => loByte (value t)) id])
    (congr : ∀ t : State, t.regs = s.regs → t.flags = s.flags → value t = value s) : Pushes s i (value s) := by
  obtain ⟨u, run_opcode, hu⟩ := quietRun_opcode s b [] (cIdle id)
    [cPush (fun t => hiByte (value t)) id, cPush (fun t => loByte (value t)) id]
  obtain ⟨w, inp, run_push, hw⟩ := (hu.record (.idle none)).goOn.quietRun_push
    (fun t regs flags _ => congr t regs flags) [] id
  have run : exec i s = .next ((w.complete inp).popInput) :=
    (row.exec_eq h).trans (congrArg _ (run_opcode.trans ((quietRun_cons_cons _ _ rfl _ _).trans run_push)))
  rw [← row.bytes] at hw
  exact ⟨_, run, pushed_of_mem hwf (by simp [hw.sp]) (by simp [hw.mem]), by simp [hw.regs], by simp [hw.flags],
    by simp [hw.pc], ranInstr_of_log row.complete row.control run (by simp [hw.log])⟩

theorem pushes_pushQq (hwf : s.mem.wf = true) (qq : PairQ) : Pushes s (.pushQq qq) (s.readPair qq.toPair) :=
  DataRow.pushes (value := fun t => t.readPair qq.toPair) h hwf ⟨rfl, rfl, rfl, rfl⟩
    fun _ regs _ => State.readPair_toPair_congr regs qq

theorem pushes_pushAf (hwf : s.mem.wf = true) : Pushes s .pushAf s.readAF :=
  DataRow.pushes (value := State.readAF) h hwf ⟨rfl, rfl, rfl, rfl⟩
    fun t regs flags => by rw [State.readAF, State.readAF, regs, flags]

/-! ### What a pop leaves (43_load16_stack.md R273, R275) -/

/-- A row that pops a word acts on it after its second read. -/
theorem DataRow.exec_pop {take : Word → State → State}
    (row : DataRow i [b] [c0, cPopZ, cPop fun hi t => take (t.setW hi).wz (t.setW hi)]) : ∃ w inp,
    exec i s = .next ((take s.top w).complete inp).popInput ∧
    Stacked s w (encode i) s.pops (s.sp + 2#16) s.mem := by
  obtain ⟨u, run_opcode, hu⟩ := quietRun_opcode s b [] cPopZ [cPop fun hi t => take (t.setW hi).wz (t.setW hi)]
  obtain ⟨w, inp, run_pop, hw⟩ := hu.quietRun_pop [] take
  exact ⟨w, inp, (row.exec_eq h).trans (congrArg _ (run_opcode.trans run_pop)), row.bytes ▸ hw⟩

theorem exec_popQq (qq : PairQ) : ∃ t, exec (.popQq qq) s = .next t ∧ t.readPair qq.toPair = s.top ∧
    (∀ q : PairQ, q ≠ qq → t.readPair q.toPair = s.readPair q.toPair) ∧ t.readReg .a = s.readReg .a ∧
    t.flags = s.flags ∧ t.sp = s.sp + 2#16 ∧ t.pc = s.pcAfter 1 ∧ MemKept s t ∧
    RanInstr s t (.popQq qq) s.pops := by
  obtain ⟨w, inp, run, hw⟩ := DataRow.exec_pop (i := .popQq qq) (take := fun v t => t.writePair qq.toPair v) h
    ⟨rfl, rfl, rfl, rfl⟩
  refine ⟨_, run, by simp, fun q hq => ?_, ?_, by simp [hw.flags], by simp [hw.sp], by simp [hw.pc, encode],
    fun a => by simp [hw.mem], ranInstr_of_log rfl rfl run (by simp [hw.log])⟩
  · simp [State.readPair_writePair_of_ne _ (PairQ.toPair_ne hq), State.readPair_toPair_congr hw.regs q]
  · simp [State.readReg_a_writePair, State.readReg_congr hw.regs]

theorem exec_popAf : ∃ t, exec .popAf s = .next t ∧ t.readReg .a = s.mem.read (s.sp + 1#16) ∧ RegsKeptBut s t .a ∧
    t.flags = unpack (s.mem.read s.sp) ∧ t.sp = s.sp + 2#16 ∧ t.pc = s.pcAfter 1 ∧ MemKept s t ∧
    RanInstr s t .popAf s.pops := by
  obtain ⟨w, inp, run, hw⟩ := DataRow.exec_pop (i := .popAf) (take := fun v t => t.writeAF v) h ⟨rfl, rfl, rfl, rfl⟩
  refine ⟨_, run, ?_, fun q hq => ?_, by simp [State.top], by simp [hw.sp], by simp [hw.pc, encode],
    fun a => by simp [hw.mem], ranInstr_of_log rfl rfl run (by simp [hw.log])⟩
  · simp [State.writeAF_eq, State.top]
  · simp [State.writeAF_eq, State.readReg_writeReg, hq, State.readReg_congr hw.regs]

end

/-- Settles O46: both pushes push a word made of the registers and the flags, both pops act on the word on top. -/
theorem pushAndPopPairs : Obligations.PushAndPopPairs := fun qq _ h hwf =>
  ⟨pushes_pushQq h hwf qq, pushes_pushAf h hwf, exec_popQq h qq, exec_popAf h⟩

/-! ### The round trip -/

/-- After an instruction no other agent writes either, whatever becomes of the registers. -/
theorem RanInstr.undisturbed {s t : State} {i : Instr} {more : List BusCycle} (ran : RanInstr s t i more)
    (h : s.Undisturbed) (g : Regs) (f : Flags) : ({ t with regs := g, flags := f } : State).Undisturbed := by
  obtain ⟨⟨-, -, -, inputs⟩, -⟩ := ran
  exact h.drop inputs

/-- Settles O47: the word on top after a push is the word pushed, and the pop reads neither registers nor flags. -/
theorem popUndoesPush : Obligations.PopUndoesPush := by
  intro qq s g f h hwf
  constructor
  · obtain ⟨t, push, pushed, -, -, -, ran⟩ := pushes_pushQq h hwf qq
    obtain ⟨u, pop, pair, -, -, -, sp, -⟩ := exec_popQq (ran.undisturbed h g f) qq
    exact ⟨t, u, push, pop, pair.trans pushed.top, sp.trans pushed.sp_add_two⟩
  · obtain ⟨t, push, pushed, -, -, -, ran⟩ := pushes_pushAf h hwf
    obtain ⟨u, pop, a, -, flags, sp, -⟩ := exec_popAf (ran.undisturbed h g f)
    have high : t.mem.read (t.sp + 1#16) = s.readReg .a := pushed.read_sp_add_one.trans (hiByte_joinBytes ..)
    have low : t.mem.read t.sp = pack s.flags := pushed.read_sp.trans (loByte_joinBytes ..)
    exact ⟨t, u, push, pop, a.trans high, by rw [flags, ← unpack_pack s.flags, ← low], sp.trans pushed.sp_add_two⟩

end Sys2Proof.Machine
end

section
/-! The 16-bit arithmetic (44_arith16.md R290 to R292): INC and DEC write one pair, ADD HL,pp writes HL and the two
carries. -/

namespace Sys2Proof.Machine

/-! ### INC and DEC of a pair (44_arith16.md R290, R291) -/

section
variable {s : State} (h : s.Undisturbed) (pp : Pair)
include h

theorem writesPair_incPp : WritesPair s (.incPp pp) pp (s.readPair pp + 1#16) [.idle none] :=
  DataRow.writesPair_idle (value := fun t => t.readPair pp + 1#16) h ⟨rfl, rfl, rfl, rfl⟩
    fun _ regs sp => congrArg (· + 1#16) (State.readPair_congr regs sp pp)

theorem writesPair_decPp : WritesPair s (.decPp pp) pp (s.readPair pp - 1#16) [.idle none] :=
  DataRow.writesPair_idle (value := fun t => t.readPair pp - 1#16) h ⟨rfl, rfl, rfl, rfl⟩
    fun _ regs sp => congrArg (· - 1#16) (State.readPair_congr regs sp pp)

end

/-- What a row that writes one pair leaves of the four pairs and of A. -/
theorem WritesPair.pairs_and_a {s : State} {i : Instr} {p : Pair} {v : Word} {more : List BusCycle}
    (h : WritesPair s i p v more) :
    ∃ t, exec i s = .next t ∧ t.readPair p = v ∧ (∀ q, q ≠ p → t.readPair q = s.readPair q) ∧
      t.readReg .a = s.readReg .a ∧ t.flags = s.flags ∧ t.pc = s.pcAfter (encode i).length ∧ MemKept s t ∧
      RanInstr s t i more := by
  obtain ⟨t, run, regs, flags, sp, pc, mem, ran⟩ := h
  have pairs (q : Pair) : t.readPair q = (s.writePair p v).readPair q := State.readPair_congr regs sp q
  refine ⟨t, run, ?_, fun q hq => ?_, ?_, flags, pc, mem, ran⟩
  · rw [pairs, State.readPair_writePair_same]
  · rw [pairs, State.readPair_writePair_of_ne s hq]
  · rw [State.readReg_congr regs, State.readReg_a_writePair]

/-! ### The 16-bit adder (44_arith16.md R292) -/

/-- The bits below bit 12. -/
theorem toNat_and_below12 (v : Word) : (v &&& 0x0FFF#16).toNat = v.toNat % 0x1000 := by
  rw [BitVec.toNat_and]
  exact Nat.and_two_pow_sub_one_eq_mod _ 12

section
variable (a b : Word) (f : Flags)

theorem add16_fst : (add16 a b f).1 = a + b := (BitVec.add_def ..).symm

theorem add16_hf_iff : (add16 a b f).2.hf = true ↔
    0x0FFF < (a &&& 0x0FFF#16).toNat + (b &&& 0x0FFF#16).toNat := by
  rw [toNat_and_below12, toNat_and_below12]
  exact decide_eq_true_iff

theorem add16_cf_iff : (add16 a b f).2.cf = true ↔ 0xFFFF < a.toNat + b.toNat := decide_eq_true_iff

/-- The other flags are not written. -/
theorem add16_keeps : (add16 a b f).2.sf = f.sf ∧ (add16 a b f).2.zf = f.zf ∧ (add16 a b f).2.vf = f.vf :=
  ⟨rfl, rfl, rfl⟩

end

/-! ### ADD HL,pp (44_arith16.md R292) -/

section
variable {s : State} (h : s.Undisturbed)
include h

/-- A row of one byte acts in the idle cycle after its opcode. -/
theorem DataRow.exec_idle {i : Instr} {b : Byte} {act : State → State} (row : DataRow i [b] [c0, cIdle act]) :
    ∃ u inp, exec i s = .next ((act u).complete inp).popInput ∧ Prepared s u (encode i) [.idle none] := by
  obtain ⟨u, run, hu⟩ := quietRun_opcode s b [] (cIdle act) []
  rw [row.bytes]
  exact ⟨_, _, (row.exec_eq h).trans (congrArg _ (run.trans (quietRun_last ..))), hu.record _⟩

/-- ADD HL,pp puts the adder's sum in HL and its flags in the flags, and keeps the rest. -/
theorem exec_addHlPp (pp : Pair) :
    ∃ t, exec (.addHlPp pp) s = .next t ∧ t.hl = (add16 s.hl (s.readPair pp) s.flags).1 ∧
      t.flags = (add16 s.hl (s.readPair pp) s.flags).2 ∧ (∀ q, q ≠ .hl → t.readPair q = s.readPair q) ∧
      t.readReg .a = s.readReg .a ∧ t.pc = s.pcAfter 1 ∧ MemKept s t ∧ RanInstr s t (.addHlPp pp) [.idle none] := by
  have row : DataRow (.addHlPp pp) [_] (cyclesAddHlPp pp) := ⟨rfl, rfl, rfl, rfl⟩
  obtain ⟨u, inp, run, hu⟩ := row.exec_idle h
  rw [← hu.hl, ← hu.readPair pp, ← hu.flags]
  refine ⟨_, run, ?_, by simp, fun q hq => ?_, ?_, by simp [hu.pc, row.bytes], fun a => by simp [hu.mem],
    ranInstr_of_log row.complete row.control run (by simp [hu.log])⟩
  · simp [State.hl]
  · simp [State.readPair_writePair_of_ne _ hq, hu.readPair]
  · simp [State.readReg_a_writePair, hu.readReg]

end

/-- Settles O48: the rows INC and DEC write one pair, and ADD HL,pp is the adder on HL and the pair. -/
theorem pairArithmetic : Obligations.PairArithmetic := by
  intro pp s h
  obtain ⟨t, run, hl, flags, others, a, pc, mem, ran⟩ := exec_addHlPp h pp
  have hf := add16_hf_iff s.hl (s.readPair pp) s.flags
  have cf := add16_cf_iff s.hl (s.readPair pp) s.flags
  obtain ⟨sf, zf, vf⟩ := add16_keeps s.hl (s.readPair pp) s.flags
  rw [← flags] at hf cf sf zf vf
  exact ⟨(writesPair_incPp h pp).pairs_and_a, (writesPair_decPp h pp).pairs_and_a, t, run, hl.trans (add16_fst ..),
    hf, cf, sf, zf, vf, others, a, pc, mem, ran⟩

end Sys2Proof.Machine
end

section
/-! Transfers of control (45_control.md R300 to R310): a conditional row runs as the unconditional table up to the cycle
at which its condition stops it, and every row of the family ends in one write of PC, reached from the front of the row
over the cycles that move the stack. -/

namespace Sys2Proof.Machine

/-! ### Conditions (45_control.md R300) -/

/-- Settles O37: condition by condition, and code by code. -/
theorem conditionsTestTheirFlags : Obligations.ConditionsTestTheirFlags := by
  have negated (b : Bool) : (!b) = true ↔ b = false := by rw [Bool.not_eq_true']
  exact ⟨fun f => ⟨negated f.zf, .rfl, negated f.cf, .rfl, negated f.vf, .rfl, negated f.sf, .rfl⟩, rfl⟩

/-- The cycles of a table up to the first that stops the sequence if the flags are those of `s`, none of them
conditional any more (00_scope.md R11). -/
def untilStop (s : State) : List Cycle → List Cycle
  | [] => []
  | c :: rest => { c with stops := neverStops } :: if c.stops s then [] else untilStop s rest

theorem isEmpty_untilStop (s : State) (table : List Cycle) : (untilStop s table).isEmpty = table.isEmpty := by
  cases table <;> rfl

theorem Cycle.Within.quiet_flags {w : ControlWrites} {f : Flags} {c : Cycle} (h : c.Within w f) (g : Option Byte)
    (s : State) : FlagsKept f s.flags (c.quiet g s).flags := by
  obtain ⟨frame, -⟩ := h s.input (c.op.perform s.input g s).2 (c.op.perform s.input g s).1
  exact (BusOp.perform_controlFrame g s w f s.input c.op).flags.trans frame.flags

/-- A table that writes no flag it tests runs as its cycles up to the first that stops it. -/
theorem quietRun_untilStop {w : ControlWrites} {f : Flags} {s : State} {table : List Cycle}
    (hin : TableWithin w f table) (hs : StopsForeseen f table) (bytes : List Byte) {u : State}
    (hu : FlagsKept f s.flags u.flags) : quietRun bytes table u = quietRun bytes (untilStop s table) u := by
  induction table generalizing bytes u with
  | nil => rfl
  | cons c rest ih =>
    obtain ⟨hcin, hrin⟩ := tableWithin_cons.1 hin
    have tail_foreseen : StopsForeseen f rest := fun s t ht => (List.cons.inj (hs s t ht)).2
    have run_flags (g : Option Byte) : FlagsKept f s.flags (c.quiet g u).flags := hu.trans (hcin.quiet_flags g u)
    have head_foreseen (g : Option Byte) : c.stops (c.quiet g u) = c.stops s :=
      (List.cons.inj (hs s _ (run_flags g))).1
    have same_quiet (g : Option Byte) : ({ c with stops := neverStops } : Cycle).quiet g u = c.quiet g u := rfl
    cases stops : c.stops s with
    | true => simp [quietRun, untilStop, head_foreseen, same_quiet, stops]
    | false =>
      have run_rest (bytes : List Byte) (g : Option Byte) := ih hrin tail_foreseen bytes
        (u := (c.quiet g u).advance.popInput) (run_flags g)
      simp [quietRun, untilStop, head_foreseen, same_quiet, stops, neverStops, isEmpty_untilStop, run_rest]

/-- In an undisturbed state every instruction but the row PREFIX is the quiet run of its cycles up to its stop. -/
theorem exec_eq_quietRun_untilStop {i : Instr} (hi : i ≠ .prefixByte) {s : State} (h : s.Undisturbed) :
    exec i s = .next (quietRun (encode i) (untilStop s (cyclesOf i)) s.startInstr) := by
  rw [exec_eq_quietRun hi h]
  exact congrArg _ (quietRun_untilStop (cyclesOf_within i) (cyclesOf_stopsForeseen i) _ (FlagsKept.same _ s.flags))

section
variable (s : State) (cc : Cond)

theorem untilStop_cons {c : Cycle} (hc : c.stops = neverStops) (rest : List Cycle) :
    untilStop s (c :: rest) = c :: untilStop s rest := by
  obtain ⟨op, act, stops⟩ := c
  subst hc
  rfl

theorem untilStop_ifTaken {c : Cycle} (hc : c.stops = neverStops) (rest : List Cycle) :
    untilStop s (c.ifTaken cc :: rest) = c :: if condHolds cc s.flags then untilStop s rest else [] := by
  obtain ⟨op, act, stops⟩ := c
  subst hc
  cases taken : condHolds cc s.flags <;> simp [untilStop, Cycle.ifTaken, taken]

/-- JR cc,e is JR e or stops after its two bytes (45_control.md R302). -/
theorem untilStop_cyclesJrCc :
    untilStop s (cyclesJrCc cc) = if condHolds cc s.flags then cyclesJr else [c0, cFetchZ] := by
  rw [cyclesJrCc, untilStop_cons s rfl, untilStop_ifTaken s cc rfl]
  split <;> rfl

/-- JP cc,nn is JP nn or stops after its three bytes (45_control.md R304). -/
theorem untilStop_cyclesJpCc :
    untilStop s (cyclesJpCc cc) = if condHolds cc s.flags then cyclesJp else [c0, cFetchZ, cFetchW] := by
  rw [cyclesJpCc, untilStop_cons s rfl, untilStop_cons s rfl, untilStop_ifTaken s cc rfl]
  split <;> rfl

/-- CALL cc,nn is CALL nn or stops after its three bytes (45_control.md R307). -/
theorem untilStop_cyclesCallCc :
    untilStop s (cyclesCallCc cc) = if condHolds cc s.flags then cyclesCall else [c0, cFetchZ, cFetchW] := by
  rw [cyclesCallCc, untilStop_cons s rfl, untilStop_cons s rfl, untilStop_ifTaken s cc rfl]
  split <;> rfl

/-- RET cc returns after an idle cycle or stops there (45_control.md R309). -/
theorem untilStop_cyclesRetCc : untilStop s (cyclesRetCc cc) =
    if condHolds cc s.flags then c0 :: cIdle id :: returnCycles id else [c0, cIdle id] := by
  rw [cyclesRetCc, untilStop_cons s rfl, untilStop_ifTaken s cc rfl]
  split <;> rfl

end

/-- As `DataRow`, for a row that may be conditional: from `s` it runs through `table`. -/
structure FlowRow (s : State) (i : Instr) (bytes : List Byte) (table : List Cycle) : Prop where
  complete : WellFormed i = true
  control : controlWritten i = .nothing
  bytes : encode i = bytes
  table : untilStop s (cyclesOf i) = table

/-! ### What a transfer of control leaves -/

/-- From `s` to `t` the bus cycles `cs` were performed, PC is `pc`, SP is `sp`, memory is `mem`, and the registers and
the flags are kept. -/
structure Transferred (s t : State) (cs : List BusCycle) (pc sp : Word) (mem : Memory) : Prop where
  regs : t.regs = s.regs
  flags : t.flags = s.flags
  pc : t.pc = pc
  sp : t.sp = sp
  mem : t.mem = mem
  log : t.log = cs.reverse ++ s.log

theorem Transferred.regsKept {s t : State} {cs : List BusCycle} {pc sp : Word} {mem : Memory}
    (h : Transferred s t cs pc sp mem) : RegsKept s t := State.readReg_congr h.regs

/-- What a row of this family does: `i` run from `s` transfers control to `pc`, after its own bytes and the cycles
`more`. -/
def Transfers (s : State) (i : Instr) (more : List BusCycle) (pc sp : Word) (mem : Memory) : Prop :=
  ∃ t, exec i s = .next t ∧ Transferred s t (s.fetches 0 (encode i) ++ more) pc sp mem ∧ RanInstr s t i more

section
variable {s u : State} {i : Instr} {bs bytes : List Byte} {table : List Cycle} {more : List BusCycle}
  {pc sp : Word} {mem : Memory}

/-- The write of PC that ends a transfer. -/
theorem Stacked.setPC_complete (h : Stacked s u bs more sp mem) (inp : TickIn) (pc : Word) :
    Transferred s ((u.setPC pc).complete inp).popInput (s.fetches 0 bs ++ more) pc sp mem where
  regs := by simp [h.regs]
  flags := by simp [h.flags]
  pc := by simp
  sp := by simp [h.sp]
  mem := by simp [h.mem]
  log := by simp [h.log]

theorem FlowRow.exec_eq (row : FlowRow s i bytes table) (h : s.Undisturbed) :
    exec i s = .next (quietRun bytes table s.startInstr) := by
  rw [exec_eq_quietRun_untilStop (bne_iff_ne.1 row.complete) h, row.bytes, row.table]

/-- A row whose last action is to write PC. -/
theorem FlowRow.transfers {inp : TickIn} (row : FlowRow s i bytes table) (h : s.Undisturbed)
    (run : quietRun bytes table s.startInstr = ((u.setPC pc).complete inp).popInput)
    (hu : Stacked s u bytes more sp mem) : Transfers s i more pc sp mem := by
  have exec_eq : exec i s = .next ((u.setPC pc).complete inp).popInput := (row.exec_eq h).trans (congrArg _ run)
  rw [← row.bytes] at hu
  have left := hu.setPC_complete inp pc
  exact ⟨_, exec_eq, left, ranInstr_of_log row.complete row.control exec_eq left.log⟩

end

/-! ### Conditional rows that are not taken (45_control.md R300) -/

section
variable {s u : State} {i : Instr} {b n : Byte} {nn : Word} {bytes : List Byte} {table : List Cycle}
  {more : List BusCycle} (h : s.Undisturbed)
include h

/-- A row that has not written PC leaves it past its bytes. -/
theorem FlowRow.falls_through {inp : TickIn} (row : FlowRow s i bytes table)
    (run : quietRun bytes table s.startInstr = (u.complete inp).popInput) (hu : Prepared s u bytes more) :
    Transfers s i more (s.pcAfter bytes.length) s.sp s.mem := by
  rw [← hu.pc]
  exact row.transfers (pc := u.pc) h run hu.stacked

theorem FlowRow.falls_through_immediate (row : FlowRow s i [b, n] [c0, cFetchZ]) :
    Transfers s i [] (s.pcAfter 2) s.sp s.mem := by
  obtain ⟨u, run, hu⟩ := quietRun_opcode s b [n] cFetchZ []
  exact (row.falls_through h (run.trans (quietRun_last ..)) ((hu.fetch (by simp) n).setZ n) :)

theorem FlowRow.falls_through_absolute (row : FlowRow s i [b, loByte nn, hiByte nn] [c0, cFetchZ, cFetchW]) :
    Transfers s i [] (s.pcAfter 3) s.sp s.mem := by
  obtain ⟨u, run, hu, -⟩ := quietRun_immediate s b [hiByte nn] cFetchW [] (loByte nn)
  exact (row.falls_through h (run.trans (quietRun_last ..)) ((hu.fetch (by simp) _).setW _) :)

theorem FlowRow.falls_through_idle (row : FlowRow s i [b] [c0, cIdle id]) :
    Transfers s i [.idle none] (s.pcAfter 1) s.sp s.mem := by
  obtain ⟨u, run, hu⟩ := quietRun_opcode s b [] (cIdle id) []
  exact (row.falls_through h (run.trans (quietRun_last ..)) (hu.record (.idle none)) :)

/-! ### Jumps (45_control.md R301 to R305) -/

/-- JR e, and JR cc,e taken: the displacement is added to PC past the instruction, in an idle cycle. -/
theorem FlowRow.jumps_relative (row : FlowRow s i [b, n] cyclesJr) :
    Transfers s i [.idle none] (BitVec.ofInt 16 (((s.pcAfter 2).toNat : Int) + n.toInt)) s.sp s.mem := by
  obtain ⟨u, run, hu, z⟩ := quietRun_immediate s b [] (cIdle fun t => t.setPC (t.pc + sext16 t.seq.z)) [] n
  have target : u.pc + sext16 u.seq.z = BitVec.ofInt 16 (((s.pcAfter 2).toNat : Int) + n.toInt) := by
    rw [hu.pc, z]
    exact indexedAddress_eq_ofInt (s.pcAfter 2) n
  rw [← target]
  exact row.transfers h (run.trans (quietRun_last ..)) (hu.record (.idle none)).stacked

/-- JP nn, and JP cc,nn taken: the latches go to PC in an idle cycle. -/
theorem FlowRow.jumps_absolute (row : FlowRow s i [b, loByte nn, hiByte nn] cyclesJp) :
    Transfers s i [.idle none] nn s.sp s.mem := by
  obtain ⟨u, run, hu, wz⟩ := quietRun_absolute s b [] (cIdle fun t => t.setPC t.wz) [] nn
  rw [← wz]
  exact row.transfers h (run.trans (quietRun_last ..)) (hu.record (.idle none)).stacked

theorem transfers_jr (off : Byte) :
    Transfers s (.jr off) [.idle none] (BitVec.ofInt 16 (((s.pcAfter 2).toNat : Int) + off.toInt)) s.sp s.mem :=
  FlowRow.jumps_relative h ⟨rfl, rfl, rfl, rfl⟩

theorem transfers_jp (nn : Word) : Transfers s (.jp nn) [.idle none] nn s.sp s.mem :=
  FlowRow.jumps_absolute h ⟨rfl, rfl, rfl, rfl⟩

theorem transfers_jpHl : Transfers s .jpHl [] s.hl s.sp s.mem := by
  have row : FlowRow s .jpHl [_] [cOpcode fun t => t.setPC t.hl] := ⟨rfl, rfl, rfl, rfl⟩
  have fetched := Prepared.opcode s (opcodeByte .q3 .o5 .o1)
  rw [← fetched.hl]
  exact row.transfers h (quietRun_last ..) fetched.stacked

theorem transfers_jrCc (cc : Cond) (off : Byte) : if condHolds cc s.flags then
      Transfers s (.jrCc cc off) [.idle none] (BitVec.ofInt 16 (((s.pcAfter 2).toNat : Int) + off.toInt)) s.sp s.mem
    else Transfers s (.jrCc cc off) [] (s.pcAfter 2) s.sp s.mem := by
  have table := untilStop_cyclesJrCc s cc
  split
  case isTrue taken => exact FlowRow.jumps_relative h ⟨rfl, rfl, rfl, table.trans (if_pos taken)⟩
  case isFalse taken => exact FlowRow.falls_through_immediate h ⟨rfl, rfl, rfl, table.trans (if_neg taken)⟩

theorem transfers_jpCc (cc : Cond) (nn : Word) : if condHolds cc s.flags then
      Transfers s (.jpCc cc nn) [.idle none] nn s.sp s.mem
    else Transfers s (.jpCc cc nn) [] (s.pcAfter 3) s.sp s.mem := by
  have table := untilStop_cyclesJpCc s cc
  split
  case isTrue taken => exact FlowRow.jumps_absolute h ⟨rfl, rfl, rfl, table.trans (if_pos taken)⟩
  case isFalse taken => exact FlowRow.falls_through_absolute h ⟨rfl, rfl, rfl, table.trans (if_neg taken)⟩

end

/-- What a jump leaves: SP and memory are kept too. -/
theorem Transfers.jumped {s : State} {i : Instr} {more : List BusCycle} {pc : Word}
    (h : Transfers s i more pc s.sp s.mem) : ∃ t, exec i s = .next t ∧ RegsKept s t ∧ t.flags = s.flags ∧
      t.sp = s.sp ∧ MemKept s t ∧ t.pc = pc ∧ RanInstr s t i more := by
  obtain ⟨t, run, left, ran⟩ := h
  exact ⟨t, run, left.regsKept, left.flags, left.sp, fun a => by rw [left.mem], left.pc, ran⟩

/-- Settles O49: a conditional jump is the unconditional one or ends after its bytes. -/
theorem jumps : Obligations.Jumps := by
  intro cc off nn s h
  have jrCc := transfers_jrCc h cc off
  have jpCc := transfers_jpCc h cc nn
  refine ⟨(transfers_jr h off).jumped, ?_, (transfers_jp h nn).jumped, ?_, (transfers_jpHl h).jumped⟩
  · split at jrCc
    case isTrue taken => simpa only [if_pos taken] using jrCc.jumped
    case isFalse taken => simpa only [if_neg taken] using jrCc.jumped
  · split at jpCc
    case isTrue taken => simpa only [if_pos taken] using jpCc.jumped
    case isFalse taken => simpa only [if_neg taken] using jpCc.jumped

/-! ### Calls (45_control.md R306, R307, 20_memory.md R80) -/

/-- A sequence that ends in the push of PC and a transfer to what the latches hold: the pushes leave them alone. -/
theorem Prepared.quietRun_pushReturn {s u : State} {bs : List Byte} {more : List BusCycle} {target : State → Word}
    {v : Word} (h : Prepared s u bs more) (latched : ∀ t : State, t.wz = u.wz → target t = v) (bytes : List Byte) :
    ∃ w inp, quietRun bytes (pushReturn target) u = ((w.setPC v).complete inp).popInput ∧
      Stacked s w bs (more ++ s.pushes (s.pcAfter bs.length)) (s.sp - 2#16) (s.memPushed (s.pcAfter bs.length)) := by
  have same_target : quietRun bytes (pushReturn target) u = quietRun bytes (pushReturn fun _ => v) u := by
    rw [pushReturn, pushReturn, quietRun_cons_cons _ _ rfl, quietRun_cons_cons _ _ rfl, quietRun_last, quietRun_last]
    simp only [cPush_takesByte, Bool.false_eq_true, if_false, cPush_quiet]
    rw [latched _ (by simp [State.wz])]
  rw [same_target]
  exact h.quietRun_push (value := State.pc) (fun _ _ _ pc => pc) bytes fun t => t.setPC v

section
variable {s : State} {i : Instr} {b : Byte} {nn : Word} (h : s.Undisturbed)
include h

/-- CALL nn, and CALL cc,nn taken: after an idle cycle PC past the instruction is pushed. -/
theorem FlowRow.calls (row : FlowRow s i [b, loByte nn, hiByte nn] cyclesCall) :
    Transfers s i (.idle none :: s.pushes (s.pcAfter 3)) nn (s.sp - 2#16) (s.memPushed (s.pcAfter 3)) := by
  obtain ⟨u, run_fetch, hu, wz⟩ := quietRun_absolute s b [] (cIdle id) (pushReturn State.wz) nn
  obtain ⟨w, inp, run_push, hw⟩ := (hu.record (.idle none)).goOn.quietRun_pushReturn (target := State.wz)
    (fun t same => same.trans wz) []
  exact row.transfers h (run_fetch.trans ((quietRun_cons_cons _ _ rfl _ _).trans run_push)) hw

theorem transfers_call (nn : Word) : Transfers s (.call nn) (.idle none :: s.pushes (s.pcAfter 3)) nn (s.sp - 2#16)
    (s.memPushed (s.pcAfter 3)) :=
  FlowRow.calls h ⟨rfl, rfl, rfl, rfl⟩

theorem transfers_callCc (cc : Cond) (nn : Word) : if condHolds cc s.flags then
      Transfers s (.callCc cc nn) (.idle none :: s.pushes (s.pcAfter 3)) nn (s.sp - 2#16) (s.memPushed (s.pcAfter 3))
    else Transfers s (.callCc cc nn) [] (s.pcAfter 3) s.sp s.mem := by
  have table := untilStop_cyclesCallCc s cc
  split
  case isTrue taken => exact FlowRow.calls h ⟨rfl, rfl, rfl, table.trans (if_pos taken)⟩
  case isFalse taken => exact FlowRow.falls_through_absolute h ⟨rfl, rfl, rfl, table.trans (if_neg taken)⟩

end

/-- What a call leaves: the return address on the stack. -/
theorem Transfers.called {s : State} {i : Instr} {more : List BusCycle} {pc v : Word} (hwf : s.mem.wf = true)
    (h : Transfers s i more pc (s.sp - 2#16) (s.memPushed v)) : ∃ t, exec i s = .next t ∧ RegsKept s t ∧
      t.flags = s.flags ∧ Pushed s t v ∧ t.pc = pc ∧ RanInstr s t i more := by
  obtain ⟨t, run, left, ran⟩ := h
  exact ⟨t, run, left.regsKept, left.flags, pushed_of_mem hwf left.sp left.mem, left.pc, ran⟩

/-- Settles O50: a conditional call is the unconditional one or ends after its bytes. -/
theorem calls : Obligations.Calls := by
  intro cc nn s h hwf
  have callCc := transfers_callCc h cc nn
  refine ⟨(transfers_call h nn).called hwf, ?_⟩
  split at callCc
  case isTrue taken => simpa only [if_pos taken] using callCc.called hwf
  case isFalse taken =>
    obtain ⟨t, run, regs, flags, rest⟩ := callCc.jumped
    exact ⟨t, run, regs, flags, by simpa only [if_neg taken] using rest⟩

/-! ### Returns (45_control.md R308 to R310, 60_exceptions.md R430) -/

theorem Stacked.record {s u : State} {bs : List Byte} {more : List BusCycle} {sp : Word} {mem : Memory}
    (h : Stacked s u bs more sp mem) (c : BusCycle) : Stacked s (u.record c) bs (more ++ [c]) sp mem :=
  { h with log := by simp [h.log] }

/-- A sequence that ends in the pops of a return address and the idle cycle that goes there. -/
theorem Prepared.quietRun_return {s u : State} {bs : List Byte} {more : List BusCycle} (h : Prepared s u bs more)
    (bytes : List Byte) : ∃ w inp,
    quietRun bytes (returnCycles id) u = ((w.setPC s.top).complete inp).popInput ∧
    Stacked s w bs (more ++ s.pops ++ [.idle none]) (s.sp + 2#16) s.mem := by
  obtain ⟨v, run_low, hv, z⟩ := h.quietRun_popZ bytes cPopW [cIdle fun t => t.setPC t.wz]
  have popped := (hv.pop.setW (v.mem.read v.sp)).goOn
  have word : (((v.sawRead v.sp (v.mem.read v.sp)).setSP (v.sp + 1#16)).setW (v.mem.read v.sp)).wz = s.top := by
    simp [State.wz, State.top, z, hv.sp, hv.mem]
  rw [word_add_one_add_one, List.append_assoc] at popped
  rw [← word]
  exact ⟨_, _, run_low.trans ((quietRun_cons_cons _ _ rfl _ _).trans (quietRun_last ..)), popped.record (.idle none)⟩

/-- The table of RET, its opcode byte given (45_control.md R308). -/
theorem quietRun_cyclesRet (s : State) (b : Byte) : ∃ w inp,
    quietRun [b] cyclesRet s.startInstr = ((w.setPC s.top).complete inp).popInput ∧
    Stacked s w [b] (s.pops ++ [.idle none]) (s.sp + 2#16) s.mem := by
  obtain ⟨u, run_opcode, hu⟩ := quietRun_opcode s b [] cPopZ [cPopW, cIdle fun t => t.setPC t.wz]
  obtain ⟨w, inp, run_pop, hw⟩ := hu.quietRun_return []
  exact ⟨w, inp, run_opcode.trans run_pop, hw⟩

section
variable {s : State} (h : s.Undisturbed)
include h

theorem transfers_ret : Transfers s .ret (s.pops ++ [.idle none]) s.top (s.sp + 2#16) s.mem := by
  have row : FlowRow s .ret [_] cyclesRet := ⟨rfl, rfl, rfl, rfl⟩
  obtain ⟨w, inp, run, hw⟩ := quietRun_cyclesRet s (opcodeByte .q3 .o1 .o1)
  exact row.transfers h run hw

theorem transfers_retCc (cc : Cond) : if condHolds cc s.flags then
      Transfers s (.retCc cc) ([.idle none] ++ s.pops ++ [.idle none]) s.top (s.sp + 2#16) s.mem
    else Transfers s (.retCc cc) [.idle none] (s.pcAfter 1) s.sp s.mem := by
  have table := untilStop_cyclesRetCc s cc
  split
  case isTrue taken =>
    have row : FlowRow s (.retCc cc) [_] _ := ⟨rfl, rfl, rfl, table.trans (if_pos taken)⟩
    obtain ⟨u, run_opcode, hu⟩ := quietRun_opcode s (opcodeByte .q3 cc.code .o0) [] (cIdle id) (returnCycles id)
    obtain ⟨w, inp, run_pop, hw⟩ := (hu.record (.idle none)).goOn.quietRun_return []
    exact row.transfers h (run_opcode.trans ((quietRun_cons_cons _ _ rfl _ _).trans run_pop)) hw
  case isFalse taken => exact FlowRow.falls_through_idle h ⟨rfl, rfl, rfl, table.trans (if_neg taken)⟩

end

/-- What a return leaves: memory is kept. -/
theorem Transfers.returned {s : State} {i : Instr} {more : List BusCycle} {pc sp : Word}
    (h : Transfers s i more pc sp s.mem) : ∃ t, exec i s = .next t ∧ RegsKept s t ∧ t.flags = s.flags ∧ MemKept s t ∧
      t.sp = sp ∧ t.pc = pc ∧ RanInstr s t i more := by
  obtain ⟨t, run, left, ran⟩ := h
  exact ⟨t, run, left.regsKept, left.flags, fun a => by rw [left.mem], left.sp, left.pc, ran⟩

/-- A row that writes no control item, given any bytes, ends at a boundary and polls with the sample of its last
cycle. -/
theorem ran_and_polled_of_log {i : Instr} {s t : State} {bytes : List Byte} {cs : List BusCycle}
    (hw : controlWritten i = .nothing) (run : runTable bytes (cyclesOf i) s.startInstr = t)
    (log : t.log = cs.reverse ++ s.log) : Ran s t cs ∧ Polled s t cs.length := by
  subst run
  have hin := cyclesOf_within i
  rw [hw] at hin
  obtain ⟨ks, performed, -, polled⟩ := runTable_polled (cyclesOf_ne_nil i) hin (cyclesOf_blind i) bytes
    (s := s.startInstr) rfl
  have ticks : ks.length = cs.length := performed.length_eq log
  have inputs := performed.inputs
  rw [ticks] at inputs polled
  exact ⟨⟨runTable_seq (cyclesOf_ne_nil i) _ _, runTable_haltBug_row (by rw [hw]; rfl) _ _, log, inputs⟩, polled⟩

/-- Writing IME before cycles that do not look at it is writing it at the beginning of the last actions. -/
theorem quietRun_setIME (v : Bool) (act : State → State) (bytes : List Byte) {front : List Cycle} (s : State)
    (blind : ∀ c ∈ front, c.stops = neverStops ∧ ∀ g (t : State), c.quiet g (t.setIME v) = (c.quiet g t).setIME v) :
    quietRun bytes (front ++ [cIdle act]) (s.setIME v) =
      quietRun bytes (front ++ [cIdle fun t => act (t.setIME v)]) s := by
  induction front generalizing bytes s with
  | nil => rfl
  | cons c rest ih =>
    obtain ⟨⟨stops, quiet⟩, blind_rest⟩ := List.forall_mem_cons.1 blind
    have after (g : Option Byte) :
        (c.quiet g (s.setIME v)).advance.popInput = (c.quiet g s).advance.popInput.setIME v := by
      rw [quiet]; rfl
    have goes_on (act : State → State) : (rest ++ [cIdle act]).isEmpty = false := by simp
    simp only [List.cons_append, quietRun, stops, neverStops, goes_on, Bool.or_false, Bool.false_eq_true, if_false,
      after]
    exact ih _ _ blind_rest

/-- RETI is RET with IME 1 from the start: only the poll point reads IME, and it follows the write. -/
theorem exec_reti_eq {s : State} (h : s.Undisturbed) :
    exec .reti s = .next (runTable [0xD9#8] (cyclesOf .ret) (s.setIME true).startInstr) := by
  rw [exec_eq_quietRun (i := .reti) nofun h,
    runTable_eq_quietRun (keepsInputs_cyclesOf .ret) _ (s := (s.setIME true).startInstr) h]
  refine congrArg _ (quietRun_setIME true (fun t => t.setPC t.wz) [0xD9#8] (front := [c0, cPopZ, cPopW])
    s.startInstr ?_).symm
  simp only [List.forall_mem_cons]
  exact ⟨⟨rfl, fun _ _ => rfl⟩, ⟨rfl, fun _ _ => rfl⟩, ⟨rfl, fun _ _ => rfl⟩, nofun⟩

theorem exec_reti {s : State} (h : s.Undisturbed) : ∃ t, exec .reti s = .next t ∧
    Transferred s t (s.fetches 0 [0xD9#8] ++ (s.pops ++ [.idle none])) s.top (s.sp + 2#16) s.mem ∧
    Ran s t (s.fetches 0 [0xD9#8] ++ (s.pops ++ [.idle none])) ∧ PolledWith s t 4 true s.eiPending := by
  obtain ⟨w, inp, run_quiet, hw⟩ := quietRun_cyclesRet (s.setIME true) 0xD9#8
  have run : runTable [0xD9#8] (cyclesOf .ret) (s.setIME true).startInstr = ((w.setPC s.top).complete inp).popInput :=
    (runTable_eq_quietRun (keepsInputs_cyclesOf .ret) _ (s := (s.setIME true).startInstr) h).trans run_quiet
  have left := hw.setPC_complete inp s.top
  obtain ⟨ran, polled⟩ := ran_and_polled_of_log (i := .ret) rfl run left.log
  exact ⟨_, (exec_reti_eq h).trans (congrArg _ run), { left with }, ran, polled⟩

/-- Settles O51: RET and RET cc taken return, RET cc not taken ends after its idle cycle, and RETI is RET with
IME 1. -/
theorem returns : Obligations.Returns := by
  intro cc s h
  have retCc := transfers_retCc h cc
  refine ⟨(transfers_ret h).returned, ?_, ?_⟩
  · split at retCc
    case isTrue taken => simpa only [if_pos taken] using retCc.returned
    case isFalse taken => simpa only [if_neg taken] using retCc.returned
  · obtain ⟨t, run, left, ran, polled⟩ := exec_reti h
    exact ⟨t, run, left.regsKept, left.flags, fun a => by rw [left.mem], left.sp, left.pc, ran, polled⟩

end Sys2Proof.Machine
end

section
/-! The system rows (46_system.md R330 to R333, R340 to R345): NOP and the ALIAS opcodes transfer control to what follows
them, the traps are calls of a fixed vector, and a row that writes a control item does so in the tick of its opcode
fetch. -/

namespace Sys2Proof.Machine

/-! ### NOP and the ALIAS opcodes (46_system.md R330, R343) -/

section
variable {s : State} {i : Instr} {b : Byte} (h : s.Undisturbed)
include h

/-- A row with no action ends past its opcode. -/
theorem FlowRow.falls_through_opcode (row : FlowRow s i [b] [c0]) : Transfers s i [] (s.pcAfter 1) s.sp s.mem :=
  row.falls_through h (quietRun_last ..) (Prepared.opcode s b)

theorem transfers_nop : Transfers s .nop [] (s.pcAfter 1) s.sp s.mem :=
  FlowRow.falls_through_opcode h ⟨rfl, rfl, rfl, rfl⟩

theorem transfers_undAlias (hi : i ∈ [Instr.undAliasD3, .undAliasDB, .undAliasE3, .undAliasEB]) :
    Transfers s i [] (s.pcAfter 1) s.sp s.mem := by
  simp only [List.mem_cons, List.not_mem_nil, or_false] at hi
  obtain rfl | rfl | rfl | rfl := hi <;> exact FlowRow.falls_through_opcode h ⟨rfl, rfl, rfl, rfl⟩

/-! ### SWI and the TRAP class (46_system.md R340, R345, 60_exceptions.md R404) -/

/-- `Trap(vec)` after the opcode: PC past it is pushed after an idle cycle. -/
theorem FlowRow.traps {vec : Word} (row : FlowRow s i [b] (c0 :: trapCycles vec)) :
    Transfers s i (.idle none :: s.pushes (s.pcAfter 1)) vec (s.sp - 2#16) (s.memPushed (s.pcAfter 1)) := by
  obtain ⟨u, run_opcode, hu⟩ := quietRun_opcode s b [] (cIdle id) (pushReturn fun _ => vec)
  obtain ⟨w, inp, run_push, hw⟩ := (hu.record (.idle none)).goOn.quietRun_pushReturn (target := fun _ => vec)
    (fun _ _ => rfl) []
  exact row.transfers h (run_opcode.trans ((quietRun_cons_cons _ _ rfl _ _).trans run_push)) hw

theorem transfers_swi : Transfers s .swi (.idle none :: s.pushes (s.pcAfter 1)) 0x0008#16 (s.sp - 2#16)
    (s.memPushed (s.pcAfter 1)) :=
  FlowRow.traps h ⟨rfl, rfl, rfl, rfl⟩

theorem transfers_undTrap (x : Oct) : Transfers s (.undTrap x) (.idle none :: s.pushes (s.pcAfter 1)) 0x0010#16
    (s.sp - 2#16) (s.memPushed (s.pcAfter 1)) :=
  FlowRow.traps h ⟨rfl, rfl, rfl, rfl⟩

end

/-- Settles O54: none of the five rows has an action. -/
theorem nopAndAliases : Obligations.NopAndAliases := by
  intro i s hi h
  obtain rfl | of_und := List.mem_cons.1 hi
  · exact (transfers_nop h).jumped
  · exact (transfers_undAlias h of_und).jumped

/-- Settles O53: both rows are `Trap` after their opcode. -/
theorem softwareTraps : Obligations.SoftwareTraps := fun x _ h hwf =>
  ⟨(transfers_swi h).called hwf, (transfers_undTrap h x).called hwf⟩

/-! ### The rows that write a control item (46_system.md R331 to R333, R344) -/

/-- `act` writes no item of the state but IME, `halted`, `locked`, `ei_pending` and `halt_bug`. -/
def ControlAction (act : State → State) : Prop := ∀ u, ∃ ime halted locked eiPending haltBug,
  act u = { u with ime := ime, halted := halted, locked := locked, eiPending := eiPending, haltBug := haltBug }

theorem controlAction_haltEntry (inp : TickIn) : ControlAction fun u => u.haltEntry inp :=
  fun u => ⟨_, _, _, _, _, u.haltEntry_spec inp⟩

theorem controlAction_ei : ControlAction fun u => { u with eiPending := true } := fun _ => ⟨_, _, _, _, _, rfl⟩

theorem controlAction_di : ControlAction fun u => { u.setIME false with eiPending := false } :=
  fun _ => ⟨_, _, _, _, _, rfl⟩

theorem controlAction_lock : ControlAction fun u => { u with locked := true } := fun _ => ⟨_, _, _, _, _, rfl⟩

/-- The state in which the actions of an instruction's c0 run: the opcode `b` is fetched and latched
(40_sequencer.md R169, R170). -/
def State.opcodeFetched (s : State) (b : Byte) : State := (s.startInstr.sawRead s.pc b).latchOpcode b

section
variable (s : State) (b : Byte)

@[simp] theorem State.opcodeFetched_ime : (s.opcodeFetched b).ime = s.ime := rfl
@[simp] theorem State.opcodeFetched_mode : (s.opcodeFetched b).seq.mode = .exec := rfl
@[simp] theorem State.opcodeFetched_halted : (s.opcodeFetched b).halted = s.halted := rfl
@[simp] theorem State.opcodeFetched_locked : (s.opcodeFetched b).locked = s.locked := rfl
@[simp] theorem State.opcodeFetched_eiPending : (s.opcodeFetched b).eiPending = s.eiPending := rfl
@[simp] theorem State.opcodeFetched_haltBug : (s.opcodeFetched b).haltBug = false := rfl
@[simp] theorem State.opcodeFetched_irqDetected : (s.opcodeFetched b).irqDetected = s.irqDetected := rfl

end

/-- From `s` to `t` the opcode `b` was fetched in one tick, and nothing changed that a program computes with. -/
structure OpcodeOnly (s t : State) (b : Byte) : Prop where
  regs : RegsKept s t
  flags : t.flags = s.flags
  sp : t.sp = s.sp
  pc : t.pc = s.pcAfter 1
  mem : MemKept s t
  seq : t.seq = Sequencer.rest
  log : t.log = (s.fetches 0 [b]).reverse ++ s.log
  inputs : t.inputs = s.inputs.drop 1

section
variable {s : State} {b : Byte}

theorem OpcodeOnly.ran {t : State} (h : OpcodeOnly s t b) (haltBug : t.haltBug = false) :
    Ran s t (s.fetches 0 [b]) :=
  ⟨h.seq, haltBug, h.log, h.inputs⟩

/-- Completion and the poll point write nothing else either. -/
theorem ControlAction.opcodeOnly {act : State → State} (hact : ControlAction act) (inp : TickIn) :
    OpcodeOnly s ((act (s.opcodeFetched b)).complete inp).popInput b := by
  obtain ⟨ime, halted, locked, eiPending, haltBug, written⟩ := hact (s.opcodeFetched b)
  have fetched : Prepared s (s.opcodeFetched b) [b] [] := Prepared.opcode s b
  have inputs : (s.opcodeFetched b).inputs = s.inputs := rfl
  rw [written]
  exact {
    regs := State.readReg_congr (by simp [fetched.regs])
    flags := by simp [fetched.flags]
    sp := by simp [fetched.sp]
    pc := by simp [fetched.pc]
    mem := fun a => by simp [fetched.mem]
    seq := by simp
    log := by simp [fetched.log]
    inputs := by simp [inputs, List.drop_one] }

/-- A row of one cycle acts in the tick of its opcode fetch, on that tick's sample. -/
theorem exec_of_cOpcodeSampled {i : Instr} {act : TickIn → State → State} (h : s.Undisturbed)
    (hi : WellFormed i = true) (bytes : encode i = [b]) (table : cyclesOf i = [cOpcodeSampled act]) :
    exec i s = .next ((act s.input (s.opcodeFetched b)).complete s.input).popInput := by
  rw [exec_eq_quietRun (bne_iff_ne.1 hi) h, bytes, table, quietRun_last]
  rfl

end

section
variable {s : State} (h : s.Undisturbed)
include h

theorem exec_halt : exec .halt s = .next (((s.opcodeFetched 0x76#8).haltEntry s.input).complete s.input).popInput :=
  exec_of_cOpcodeSampled (act := fun inp u => u.haltEntry inp) h rfl rfl rfl

theorem exec_ei : ∃ t, exec .ei s = .next t ∧ OpcodeOnly s t 0x18#8 ∧ t.haltBug = false ∧
    PolledWith s t 1 s.ime true := by
  refine ⟨_, exec_of_cOpcodeSampled h rfl rfl rfl, controlAction_ei.opcodeOnly _, by simp, by simp, by simp, ?_⟩
  rw [Nat.sub_self, ← State.input_eq_sampleAt]
  cases locked : s.locked <;> simp [locked]

theorem exec_di : ∃ t, exec .di s = .next t ∧ OpcodeOnly s t 0x10#8 ∧ t.haltBug = false ∧
    PolledWith s t 1 false false := by
  refine ⟨_, exec_of_cOpcodeSampled h rfl rfl rfl, controlAction_di.opcodeOnly _, by simp, by simp, by simp, ?_⟩
  cases locked : s.locked <;> simp

/-- A row that locks the core: what follows its opcode fetch is a completion without a poll point
(40_sequencer.md R175). -/
theorem exec_lock {i : Instr} {b : Byte} (hi : WellFormed i = true) (bytes : encode i = [b])
    (table : cyclesOf i = [cOpcode fun u => { u with locked := true }]) :
    ∃ t, exec i s = .next t ∧ OpcodeOnly s t b ∧ t.haltBug = false ∧ t.locked = true ∧ t.ime = s.ime ∧
      t.eiPending = s.eiPending ∧ t.irqDetected = s.irqDetected ∧ t.halted = s.halted :=
  ⟨_, exec_of_cOpcodeSampled h hi bytes table, controlAction_lock.opcodeOnly _, by simp⟩

end

/-- Settles O23: HALT's action sets `halted` or `halt_bug` from the sample its poll point uses too. -/
theorem haltEntersOrGlitches : Obligations.HaltEntersOrGlitches := by
  intro s h locked eiPending
  have data : OpcodeOnly s _ 0x76#8 := (controlAction_haltEntry s.input).opcodeOnly s.input
  refine ⟨_, exec_halt h, data.regs, data.flags, data.sp, data.pc, data.mem, data.seq, ?_, data.inputs, ?_⟩
  · simpa [State.fetches, State.byteAddress_zero] using data.log
  · rw [← State.input_eq_sampleAt, State.haltEntry_spec]
    cases pending : s.input.irqPending <;> cases ime : s.ime <;> simp [locked, eiPending, pending, ime]

/-- Settles O26: EI enters its poll point with the IME it found and `ei_pending` 1, DI with both 0. -/
theorem enableDisableInterrupts : Obligations.EnableDisableInterrupts := by
  intro s h
  obtain ⟨t, run_ei, ei, ei_bug, ei_polled⟩ := exec_ei h
  obtain ⟨u, run_di, di, di_bug, di_polled⟩ := exec_di h
  exact ⟨⟨t, run_ei, ei.regs, ei.flags, ei.sp, ei.pc, ei.mem, ei.ran ei_bug, ei_polled⟩,
    u, run_di, di.regs, di.flags, di.sp, di.pc, di.mem, di.ran di_bug, di_polled⟩

/-- Settles O55: the three rows lock the core and so have no poll point. -/
theorem lockOpcodesFreeze : Obligations.LockOpcodesFreeze := by
  intro i s hi h
  obtain ⟨b, complete, bytes, table⟩ : ∃ b, WellFormed i = true ∧ encode i = [b] ∧
      cyclesOf i = [cOpcode fun u => { u with locked := true }] := by
    simp only [List.mem_cons, List.not_mem_nil, or_false] at hi
    obtain rfl | rfl | rfl := hi <;> exact ⟨_, rfl, rfl, rfl⟩
  obtain ⟨t, run, data, haltBug, locked, ime, eiPending, detected, halted⟩ := exec_lock h complete bytes table
  exact ⟨t, run, locked, data.regs, data.flags, data.sp, data.mem, data.pc, ime, eiPending, detected, halted,
    bytes ▸ data.ran haltBug⟩

/-! ### EI, NOP, service (46_system.md R332, 70_reset_and_hazards.md R480) -/

/-- A step from a boundary runs the one-byte instruction at PC. -/
theorem step_of_encode_singleton {s : State} {i : Instr} (hi : WellFormed i = true) (starts : s.Starts)
    (h : s.Undisturbed) (at_pc : [s.mem.read s.pc] = encode i) : step s = exec i s := by
  rw [step_of_starts starts, fetched_of_encode_singleton hi h at_pc]

/-- The poll point of a core that is not locked (40_sequencer.md R176). -/
theorem PolledWith.unlocked {s t : State} {n : Nat} {ime ei : Bool} (h : PolledWith s t n ime ei)
    (locked : s.locked = false) : t.halted = s.halted ∧ t.locked = false ∧
      t.irqDetected = (s.irqDetected || (ime && (s.sampleAt (n - 1)).irqPending)) ∧ t.ime = (ime || ei) := by
  obtain ⟨halted_kept, locked_kept, poll⟩ := h
  rw [if_neg (by simp [locked])] at poll
  obtain ⟨detected, enabled, -⟩ := poll
  exact ⟨halted_kept, locked_kept.trans locked, detected, enabled⟩

theorem State.pcAfter_of_ordinary {s : State} (h : s.haltBug = false) (n : Nat) :
    s.pcAfter n = s.pc + BitVec.ofNat 16 n := by
  rw [← State.byteAddress_eq_pcAfter, State.byteAddress_of_ordinary n h]

/-- Settles O25: EI's poll point finds IME 0, that of the NOP after it finds IME 1. -/
theorem enableTakesEffectAfterNextInstruction : Obligations.EnableTakesEffectAfterNextInstruction := by
  intro s starts h ordinary ime reset₁ hold₁ reset₂ hold₂ _ pending at_pc at_next
  obtain ⟨t, run_ei, ei, t_ordinary, ei_polled⟩ := exec_ei h
  have ei_step : step s = exec .ei s := step_of_encode_singleton rfl starts h (by rw [at_pc]; rfl)
  obtain ⟨-, -, locked, -, halted, undetected⟩ := starts
  obtain ⟨t_halted, t_locked, t_detected, t_ime⟩ := ei_polled.unlocked locked
  rw [undetected, ime, Bool.false_and, Bool.or_false] at t_detected
  have t_pc : t.pc = s.pc + 1#16 := ei.pc.trans (State.pcAfter_of_ordinary ordinary 1)
  have t_sample (k : Nat) : t.sampleAt k = s.sampleAt (1 + k) := State.sampleAt_of_inputs ei.inputs k
  have t_starts : t.Starts := ⟨by rw [ei.seq]; rfl, t_sample 0 ▸ reset₁, t_locked, t_sample 0 ▸ hold₁,
    t_halted.trans halted, t_detected⟩
  have t_undisturbed : t.Undisturbed := h.drop ei.inputs
  obtain ⟨u, run_nop, -, -, -, -, u_pc, ⟨u_seq, -, -, u_inputs⟩, nop_polled⟩ := (transfers_nop t_undisturbed).jumped
  have nop_step : step t = exec .nop t :=
    step_of_encode_singleton rfl t_starts t_undisturbed (by rw [ei.mem, t_pc, at_next]; rfl)
  obtain ⟨u_halted, u_locked, u_detected, u_ime⟩ := nop_polled.unlocked t_locked
  have u_sample : u.sampleAt 0 = s.sampleAt 2 := (State.sampleAt_of_inputs u_inputs 0).trans (t_sample 1)
  have detected : u.irqDetected = true := by
    have sampled : (t.sampleAt 0).irqPending = true := t_sample 0 ▸ pending
    rw [u_detected, t_ime]
    simp [sampled, encode]
  obtain ⟨-, -, -, -, service, -⟩ := tickCasesInOrder u
  refine ⟨t, u, ei_step.trans run_ei, by simp [t_ime], t_detected, t_pc, nop_step.trans run_nop,
    by simp [u_ime, t_ime], detected, ?_, service (by rw [u_seq]; rfl) (u_sample ▸ reset₂) u_locked
      (u_sample ▸ hold₂) (u_halted.trans (t_halted.trans halted)) detected⟩
  rw [u_pc, State.pcAfter_of_ordinary t_ordinary, t_pc, BitVec.add_assoc]
  rfl

end Sys2Proof.Machine
end

section
/-! The rotates and shifts on bytes (47_prefixed.md R361 to R368): seven of the eight move every bit one place and
differ in the bit that comes in. -/

namespace Sys2Proof.Machine

section
variable {v : Byte} {c fill : Bool} {op : ShiftOp}

/-- A left operation from `v` to `result`: every bit one place up, `fill` in at bit 0, bit 7 out to CF. -/
structure ShiftsLeft (v : Byte) (fill : Bool) (result : Byte × Flags) : Prop where
  moved : ∀ k, k < 7 → result.1.getLsbD (k + 1) = v.getLsbD k
  filled : result.1.getLsbD 0 = fill
  carry : result.2.cf = v.getLsbD 7

/-- A right operation from `v` to `result`: every bit one place down, `fill` in at bit 7, bit 0 out to CF. -/
structure ShiftsRight (v : Byte) (fill : Bool) (result : Byte × Flags) : Prop where
  moved : ∀ k, k < 7 → result.1.getLsbD k = v.getLsbD (k + 1)
  filled : result.1.getLsbD 7 = fill
  carry : result.2.cf = v.getLsbD 0

theorem shiftsLeft_of_shiftValue (h : shiftValue op v c = ((v <<< 1) ||| flagBit fill 0, v.getLsbD 7)) :
    ShiftsLeft v fill (shiftResult op v c) := by
  simp only [shiftResult, h]
  refine ⟨fun k hk => ?_, ?_, rfl⟩
  · have inside : k + 1 < 8 := by omega
    rw [BitVec.getLsbD_or, getLsbD_flagBit _ _ _ inside, BitVec.getLsbD_shiftLeft]
    simp [inside]
  · rw [BitVec.getLsbD_or, getLsbD_flagBit _ _ _ (by decide), BitVec.getLsbD_shiftLeft]
    simp

theorem shiftsRight_of_shiftValue (h : shiftValue op v c = ((v >>> 1) ||| flagBit fill 7, v.getLsbD 0)) :
    ShiftsRight v fill (shiftResult op v c) := by
  simp only [shiftResult, h]
  refine ⟨fun k hk => ?_, ?_, rfl⟩
  · have inside : k < 8 := by omega
    rw [BitVec.getLsbD_or, getLsbD_flagBit _ _ _ inside, BitVec.getLsbD_ushiftRight, Nat.add_comm]
    simp [hk.ne]
  · rw [BitVec.getLsbD_or, getLsbD_flagBit _ _ _ (by decide), BitVec.getLsbD_ushiftRight]
    simp

theorem flagBit_false (n : Nat) : flagBit false n = 0#8 := by simp [flagBit]

/-- What SRA keeps in place is its bit 7 (47_prefixed.md R366). -/
theorem and_signBit (v : Byte) : v &&& 0x80#8 = flagBit (v.getLsbD 7) 7 := by
  have sign : (0x80#8 : Byte) = BitVec.twoPow 8 7 := rfl
  apply BitVec.eq_of_getLsbD_eq
  intro k hk
  rw [getLsbD_flagBit _ _ _ hk, sign, BitVec.getLsbD_and, BitVec.getLsbD_twoPow]
  by_cases top : k = 7
  · simp [top]
  · simp [top, Ne.symm top]

variable (v c)

theorem shiftsLeft_sla : ShiftsLeft v false (shiftResult .sla v c) :=
  shiftsLeft_of_shiftValue (by simp [shiftValue, flagBit_false])

theorem shiftsRight_srl : ShiftsRight v false (shiftResult .srl v c) :=
  shiftsRight_of_shiftValue (by simp [shiftValue, flagBit_false])

theorem shiftsRight_sra : ShiftsRight v (v.getLsbD 7) (shiftResult .sra v c) :=
  shiftsRight_of_shiftValue (by simp [shiftValue, and_signBit])

theorem shiftResult_swap_getLsbD {k : Nat} (hk : k < 4) :
    (shiftResult .swap v c).1.getLsbD k = v.getLsbD (k + 4) ∧
    (shiftResult .swap v c).1.getLsbD (k + 4) = v.getLsbD k := by
  have inside : k + 4 < 8 := by omega
  have outside : v.getLsbD (4 + (k + 4)) = false := BitVec.getLsbD_of_ge v _ (by omega)
  simp only [shiftResult, shiftValue, BitVec.getLsbD_or, BitVec.getLsbD_shiftLeft, BitVec.getLsbD_ushiftRight]
  constructor
  · simp [hk, Nat.add_comm]
  · simp [inside, outside]

/-- All but CF are the flags of a logical result. -/
theorem shiftResult_flags (op : ShiftOp) : (shiftResult op v c).2.sf = (shiftResult op v c).1.msb ∧
    ((shiftResult op v c).2.zf = true ↔ (shiftResult op v c).1 = 0#8) ∧
    (shiftResult op v c).2.hf = false ∧ (shiftResult op v c).2.vf = false :=
  ⟨getLsbD_seven _, beq_iff_eq, rfl, rfl⟩

end

/-- Settles O36: three left operations, four right ones and SWAP. -/
theorem shiftsMoveOneBit : Obligations.ShiftsMoveOneBit := by
  intro v c
  have rlc : ShiftsLeft v (v.getLsbD 7) (shiftResult .rlc v c) := shiftsLeft_of_shiftValue rfl
  have rl : ShiftsLeft v c (shiftResult .rl v c) := shiftsLeft_of_shiftValue rfl
  have sla := shiftsLeft_sla v c
  have rrc : ShiftsRight v (v.getLsbD 0) (shiftResult .rrc v c) := shiftsRight_of_shiftValue rfl
  have rr : ShiftsRight v c (shiftResult .rr v c) := shiftsRight_of_shiftValue rfl
  have sra := shiftsRight_sra v c
  have srl := shiftsRight_srl v c
  exact ⟨fun k hk => ⟨rlc.moved k hk, rl.moved k hk, sla.moved k hk, rrc.moved k hk, rr.moved k hk, sra.moved k hk,
      srl.moved k hk⟩,
    rlc.filled, rl.filled, sla.filled, rrc.filled, rr.filled, sra.filled, srl.filled,
    fun _ => shiftResult_swap_getLsbD v c,
    rlc.carry, rl.carry, sla.carry, rrc.carry, rr.carry, sra.carry, srl.carry, rfl, shiftResult_flags v c⟩

end Sys2Proof.Machine
end

section
/-! The prefixed rows (47_prefixed.md R360 to R371): the byte 0xCB, the opcode byte, then the operation on a register or
on the byte at HL. -/

namespace Sys2Proof.Machine

/-! ### Past the two bytes (40_sequencer.md R171) -/

theorem Prepared.latchPrefixed {s u : State} {bs : List Byte} {more : List BusCycle} (h : Prepared s u bs more)
    (b : Byte) : Prepared s (u.latchPrefixed b) bs more := { h with }

section
variable {s : State} {i : Instr} {n : Byte} (h : s.Undisturbed)
include h

/-- A row of two cycles acts after the fetch of the prefixed opcode. -/
theorem DataRow.exec_prefixed {act : State → State} (row : DataRow i [Config.prefixValue, n] [c0, cPrefixed act]) :
    ∃ u inp, exec i s = .next ((act u).complete inp).popInput ∧ Prepared s u (encode i) [] := by
  obtain ⟨u, inp, run, hu⟩ := row.exec_immediate (take := fun b t => act (t.latchPrefixed b)) h
  exact ⟨_, inp, run, hu.latchPrefixed n⟩

/-- A longer row goes on from there with the cycles of the memory form. -/
theorem DataRow.exec_prefixed_cons {c : Cycle} {rest : List Cycle}
    (row : DataRow i [Config.prefixValue, n] (c0 :: cPrefixed id :: c :: rest)) :
    ∃ u, exec i s = .next (quietRun [] (c :: rest) u) ∧ Prepared s u (encode i) [] := by
  obtain ⟨u, run, hu⟩ := quietRun_opcode s Config.prefixValue [n] (cPrefixed id) (c :: rest)
  have fetched := quietRun_cons_cons [n] u (c := cPrefixed id) rfl c rest
  rw [row.bytes]
  exact ⟨_, (row.exec_eq h).trans (congrArg _ (run.trans fetched)), ((hu.fetch (by simp) n).latchPrefixed n).goOn⟩

/-! ### The two forms of an operation (47_prefixed.md R360) -/

theorem computes_prefixedRegister {op : Byte → Flags → Byte × Flags} {r : Reg}
    (row : DataRow i [Config.prefixValue, n] (prefixedRegister op r)) :
    Computes s i r (op (s.readReg r) s.flags) [] := by
  obtain ⟨u, inp, run, hu⟩ := row.exec_prefixed h
  rw [← hu.readReg r, ← hu.flags]
  exact row.computes run hu

theorem modifies_prefixedMemory {op : Byte → Flags → Byte × Flags} (hwf : s.mem.wf = true)
    (row : DataRow i [Config.prefixValue, n] (prefixedMemory op)) : Modifies s i (op (s.mem.read s.hl) s.flags) := by
  obtain ⟨u, run, hu⟩ := row.exec_prefixed_cons h
  exact row.modifies hwf run hu

end

/-! ### The rotates and shifts (47_prefixed.md R361 to R368) -/

theorem dataRow_shiftOnReg (op : ShiftOp) (r : Reg) :
    ∃ n, DataRow (shiftOnReg r op) [Config.prefixValue, n] (prefixedRegister (shiftOperation op) r) := by
  cases op <;> exact ⟨_, rfl, rfl, rfl, rfl⟩

theorem dataRow_shiftOnMem (op : ShiftOp) :
    ∃ n, DataRow (shiftOnMem op) [Config.prefixValue, n] (prefixedMemory (shiftOperation op)) := by
  cases op <;> exact ⟨_, rfl, rfl, rfl, rfl⟩

/-- Settles O56: the operations differ in the row's bytes alone. -/
theorem rotateAndShift : Obligations.RotateAndShift := by
  intro op r s h hwf
  obtain ⟨_, onReg⟩ := dataRow_shiftOnReg op r
  obtain ⟨_, onMem⟩ := dataRow_shiftOnMem op
  refine ⟨?_, ?_⟩
  · obtain ⟨t, run, result, others, flags, sp, pc, mem, ran⟩ := computes_prefixedRegister h onReg
    exact ⟨t, run, Prod.ext result flags, others, sp, pc.trans (congrArg _ onReg.length), mem, ran⟩
  · obtain ⟨t, run, result, others, flags, regs, sp, pc, ran⟩ := modifies_prefixedMemory h hwf onMem
    exact ⟨t, run, Prod.ext result flags, others, regs, sp, pc.trans (congrArg _ onMem.length), ran⟩

/-! ### RES and SET (47_prefixed.md R370, R371) -/

section
variable (b : Oct) (v : Byte) (k : Nat)

theorem getLsbD_bitMask : (bitMask b).getLsbD k = decide (k = b.number) := by
  have shifted_one : bitMask b = BitVec.twoPow 8 b.number := rfl
  have inside := b.number_lt
  rw [shifted_one, BitVec.getLsbD_twoPow, Bool.eq_iff_iff]
  simp only [Bool.and_eq_true, decide_eq_true_eq]
  omega

theorem getLsbD_clearBit : (clearBit b v).getLsbD k = (decide (k ≠ b.number) && v.getLsbD k) := by
  rw [clearBit, BitVec.getLsbD_and, BitVec.getLsbD_not, getLsbD_bitMask]
  by_cases inside : k < 8
  · simp [inside, Bool.and_comm]
  · simp [BitVec.getLsbD_of_ge v k (by omega)]

theorem getLsbD_setBit : (setBit b v).getLsbD k = (decide (k = b.number) || v.getLsbD k) := by
  rw [setBit, BitVec.getLsbD_or, getLsbD_bitMask, Bool.or_comm]

end

/-- A computation told by the bits of the register it writes. -/
theorem Computes.bits {s : State} {i : Instr} {r : Reg} {result : Byte × Flags} {more : List BusCycle}
    {bit : Nat → Bool} (h : Computes s i r result more) (hbit : ∀ k, result.1.getLsbD k = bit k) :
    ∃ t, exec i s = .next t ∧ (∀ k, (t.readReg r).getLsbD k = bit k) ∧ RegsKeptBut s t r ∧ t.flags = result.2 ∧
      t.sp = s.sp ∧ t.pc = s.pcAfter (encode i).length ∧ MemKept s t ∧ RanInstr s t i more := by
  obtain ⟨t, run, written, rest⟩ := h
  exact ⟨t, run, fun k => written ▸ hbit k, rest⟩

/-- A read-modify-write told by the bits of the byte it writes. -/
theorem Modifies.bits {s : State} {i : Instr} {result : Byte × Flags} {bit : Nat → Bool} (h : Modifies s i result)
    (hbit : ∀ k, result.1.getLsbD k = bit k) :
    ∃ t, exec i s = .next t ∧ (∀ k, (t.mem.read s.hl).getLsbD k = bit k) ∧ MemKeptBut s t [s.hl] ∧ RegsKept s t ∧
      t.flags = result.2 ∧ t.sp = s.sp ∧ t.pc = s.pcAfter (encode i).length ∧
      RanInstr s t i [.read s.hl (s.mem.read s.hl), .write s.hl (t.mem.read s.hl)] := by
  obtain ⟨t, run, written, others, flags, regs, sp, pc, ran⟩ := h
  exact ⟨t, run, fun k => written ▸ hbit k, others, regs, flags, sp, pc, written ▸ ran⟩

/-- Settles O58: the two functions on bytes, in a register and at HL. -/
theorem clearAndSetBit : Obligations.ClearAndSetBit := by
  intro b r s h hwf
  have resR : Computes s (.resR b r) r (resOperation b (s.readReg r) s.flags) [] :=
    computes_prefixedRegister h ⟨rfl, rfl, rfl, rfl⟩
  have setR : Computes s (.setR b r) r (setOperation b (s.readReg r) s.flags) [] :=
    computes_prefixedRegister h ⟨rfl, rfl, rfl, rfl⟩
  have resM : Modifies s (.resM b) (resOperation b (s.mem.read s.hl) s.flags) :=
    modifies_prefixedMemory h hwf ⟨rfl, rfl, rfl, rfl⟩
  have setM : Modifies s (.setM b) (setOperation b (s.mem.read s.hl) s.flags) :=
    modifies_prefixedMemory h hwf ⟨rfl, rfl, rfl, rfl⟩
  exact ⟨resR.bits (getLsbD_clearBit b _), setR.bits (getLsbD_setBit b _), resM.bits (getLsbD_clearBit b _),
    setM.bits (getLsbD_setBit b _)⟩

/-! ### BIT (47_prefixed.md R369) -/

/-- What a test does: `i` run from `s` leaves the flags `f` and keeps the registers, SP and memory; after its own bytes
it performs the cycles `more`, which `SetsFlags` has none of (47_prefixed.md R369). -/
def Tests (s : State) (i : Instr) (f : Flags) (more : List BusCycle) : Prop :=
  ∃ t, exec i s = .next t ∧ t.flags = f ∧ RegsKept s t ∧ t.sp = s.sp ∧ t.pc = s.pcAfter (encode i).length ∧
    MemKept s t ∧ RanInstr s t i more

section
variable {s u : State} {i : Instr} {n : Byte} {b : Oct} {r : Reg}

theorem DataRow.tests {bytes : List Byte} {table : List Cycle} {f : Flags} {more : List BusCycle} {inp : TickIn}
    (row : DataRow i bytes table) (run : exec i s = .next (((u.setFlags f).complete inp).popInput))
    (h : Prepared s u (encode i) more) : Tests s i f more := by
  refine ⟨_, run, by simp, fun q => ?_, by simp [h.sp], by simp [h.pc], fun a => ?_,
    ranInstr_of_log row.complete row.control run (by simp [h.log])⟩
  · simp [h.readReg]
  · simp [h.mem]

variable (h : s.Undisturbed)
include h

theorem tests_bitRegister (row : DataRow i [Config.prefixValue, n] (bitRegister b r)) :
    Tests s i (bitFlags b (s.readReg r) s.flags) [] := by
  obtain ⟨u, inp, run, hu⟩ := row.exec_prefixed h
  rw [← hu.readReg r, ← hu.flags]
  exact row.tests run hu

theorem tests_bitMemory (row : DataRow i [Config.prefixValue, n] (bitMemory b)) :
    Tests s i (bitFlags b (s.mem.read s.hl) s.flags) [.read s.hl (s.mem.read s.hl)] := by
  obtain ⟨u, run, hu⟩ := row.exec_prefixed_cons h
  rw [quietRun_last] at run
  rw [← hu.hl, ← hu.mem, ← hu.flags]
  exact row.tests run ((hu.record _).setZ _)

end

/-- Settles O57: both forms act on the flags alone, the memory form after its read. -/
theorem testBit : Obligations.TestBit := fun _ _ _ h =>
  ⟨tests_bitRegister h ⟨rfl, rfl, rfl, rfl⟩, tests_bitMemory h ⟨rfl, rfl, rfl, rfl⟩⟩

end Sys2Proof.Machine
end

section
/-! Exceptions and reset: interrupt selection and the service sequence (60_exceptions.md R417 to R424), the return from
a trap (R404, R405), and the reset tick (70_reset_and_hazards.md R462, R470). -/

namespace Sys2Proof.Machine

/-! ### Interrupt selection (60_exceptions.md R417, R423, R424) -/

/-- A source is the number of a bit of a byte. -/
theorem ofNat_eq_source_iff {k : Nat} (hk : k < 8) (i : BitVec 3) : BitVec.ofNat 3 k = i ↔ k = i.toNat := by
  rw [BitVec.toNat_eq, BitVec.toNat_ofNat, Nat.mod_eq_of_lt hk]

theorem leastSource_eq_some_iff (p : Byte) (i : BitVec 3) :
    leastSource p = some i ↔ p.getLsbD i.toNat = true ∧ ∀ j, j < i.toNat → p.getLsbD j = false := by
  simp only [leastSource, Option.map_eq_some_iff, List.find?_range_eq_some, List.mem_range, Bool.not_eq_true']
  constructor
  · rintro ⟨k, ⟨bit, lt, lower⟩, eq⟩
    rw [← (ofNat_eq_source_iff lt i).1 eq]
    exact ⟨bit, lower⟩
  · rintro ⟨bit, lower⟩
    exact ⟨i.toNat, ⟨bit, i.isLt, lower⟩, (ofNat_eq_source_iff i.isLt i).2 rfl⟩

theorem leastSource_zero : leastSource 0#8 = none := rfl

section
variable {inp : TickIn}

theorem TickIn.vector_of_selected {i : BitVec 3} (h : inp.selected = some i) : inp.vector = Config.vecInt i := by
  rw [TickIn.vector, h]

theorem TickIn.vector_of_none (h : inp.selected = none) : inp.vector = Config.vecFallback := by
  rw [TickIn.vector, h]

end

/-- Settles O22: selection is the search for the lowest bit, and the vector follows the selection. -/
theorem lowestSourceWins : Obligations.LowestSourceWins := by
  intro inp
  refine ⟨leastSource_eq_some_iff _, fun i selected => TickIn.vector_of_selected selected, fun no_source => ?_⟩
  have selected : inp.selected = none := by rw [TickIn.selected, no_source, leastSource_zero]
  exact ⟨selected, TickIn.vector_of_none selected⟩

/-! ### The service sequence (60_exceptions.md R420 to R422) -/

/-- No poll point follows the service sequence (40_sequencer.md R175, R177). -/
theorem State.complete_of_service {s : State} (h : s.seq.mode = .service) (inp : TickIn) :
    s.complete inp = { s with seq := Sequencer.rest } := by
  simp [State.complete, h]

/-- Before c4 of the service sequence: PC is pushed, the source is not yet selected (60_exceptions.md R420). -/
def State.beforeSelect (s : State) : State :=
  { s.startService with
    sp := s.sp - 2#16
    seq := { s.seq with mode := .service, step := 4#3 }
    mem := s.memPushed s.pc
    inputs := s.inputs.drop 4
    log := ([BusCycle.idle none, .idle none] ++ s.pushes s.pc).reverse ++ s.log }

/-- The first four cycles of the service sequence: two idle ones and the pushes of the two halves of PC. -/
theorem quietRun_serviceCycles (s : State) :
    quietRun [] serviceCycles s.startService = quietRun [] [cSelect] s.beforeSelect := by
  have four_samples : s.inputs.drop 4 = s.inputs.tail.tail.tail.tail := by
    simp only [← List.drop_one, List.drop_drop]
  rw [serviceCycles, quietRun_cons_cons _ _ rfl, quietRun_cons_cons _ _ rfl, quietRun_cons_cons _ _ rfl,
    quietRun_cons_cons _ _ rfl]
  simp [State.beforeSelect, State.memPushed, State.pushes, four_samples, word_sub_one_sub_one, State.startService,
    State.record, State.advance, State.popInput, State.setSP, State.busWrite, State.setMem]

/-- The whole next state of the service sequence. -/
theorem State.service_eq {s : State} (h : s.Undisturbed) : s.service =
    { s with
      pc := (s.sampleAt 4).vector, sp := s.sp - 2#16, ime := false, irqDetected := false, seq := Sequencer.rest,
      mem := s.memPushed s.pc, inputs := s.inputs.drop 5,
      log := ([BusCycle.idle none, .idle none] ++ s.pushes s.pc ++ [BusCycle.idle (s.sampleAt 4).selected]).reverse ++
        s.log } := by
  have sample : s.beforeSelect.input = s.sampleAt 4 := rfl
  have five_samples : s.inputs.drop 5 = (s.inputs.drop 4).tail := List.tail_drop.symm
  rw [service_eq_quietRun h, quietRun_serviceCycles, quietRun_last, cSelect_takesByte, if_neg Bool.false_ne_true,
    cSelect_quiet, State.complete_of_service rfl, sample, five_samples]
  rfl

/-- Settles O21: the step is the whole service sequence, whose next state is known item by item. -/
theorem serviceSequenceTakesInterrupt : Obligations.ServiceSequenceTakesInterrupt := by
  intro s mode reset locked hold halted detected h hwf
  obtain ⟨-, -, -, -, service_case, -⟩ := tickCasesInOrder s
  have run : step s = .next s.service := by rw [step, service_case mode reset locked hold halted detected]
  rw [State.service_eq h] at run
  exact ⟨_, run, pushed_of_mem hwf rfl rfl, rfl, rfl, rfl, rfl, rfl, rfl, rfl, halted, locked, rfl, rfl, rfl⟩

/-! ### Returning from a trap (60_exceptions.md R404, R405) -/

/-- RET after an instruction that pushed `v` and transferred control: it goes to `v` and SP is what it was. -/
theorem Transfers.ret_resumes {s : State} {i : Instr} {more : List BusCycle} {pc v : Word} (h : s.Undisturbed)
    (hwf : s.mem.wf = true) (trap : Transfers s i more pc (s.sp - 2#16) (s.memPushed v)) :
    ∃ t u, exec i s = .next t ∧ t.pc = pc ∧ exec .ret t = .next u ∧ u.pc = v ∧ u.sp = s.sp ∧ u.regs = s.regs ∧
      u.flags = s.flags := by
  obtain ⟨t, run, left, ran⟩ := trap
  have pushed : Pushed s t v := pushed_of_mem hwf left.sp left.mem
  obtain ⟨u, run_ret, back, -⟩ := transfers_ret (ran.undisturbed h t.regs t.flags)
  exact ⟨t, u, run, left.pc, run_ret, back.pc.trans pushed.top, back.sp.trans pushed.sp_add_two,
    back.regs.trans left.regs, back.flags.trans left.flags⟩

/-- Settles O52: both traps push the address after their opcode. -/
theorem returnFromTrapResumes : Obligations.ReturnFromTrapResumes := fun x _ h hwf =>
  ⟨(transfers_swi h).ret_resumes h hwf, (transfers_undTrap h x).ret_resumes h hwf⟩

/-! ### The reset tick (70_reset_and_hazards.md R462, R470) -/

/-- The whole next state of the reset tick. -/
theorem State.resetTick_eq (s : State) : s.resetTick =
    { State.reset with
      mem := s.mem.writeAll (s.sampleAt 0).others, inputs := s.inputs.drop 1, log := .idle none :: s.log } := by
  rw [State.resetTick, State.idleTick_eq]

theorem step_and_tick_of_reset_line {s : State} (mode : s.seq.mode = .boundary) (line : (s.sampleAt 0).reset = true) :
    step s = .next s.resetTick ∧ tick s = .next s.resetTick := by
  obtain ⟨reset_case, -⟩ := tickCasesInOrder s
  exact step_and_tick_of_reset (reset_case mode line)

/-- Every register is 0 after reset (70_reset_and_hazards.md R470). -/
theorem readReg_resetTick (s : State) (r : Reg) : s.resetTick.readReg r = 0x00#8 := by cases r <;> rfl

theorem pack_resetTick (s : State) : pack s.resetTick.flags = 0x20#8 := by
  show pack State.reset.flags = 0x20#8
  decide

/-- Settles O12: the items of the reset table are those of the reset state. -/
theorem resetValues : Obligations.ResetValues := by
  intro s mode line
  obtain ⟨run, ticked⟩ := step_and_tick_of_reset_line mode line
  exact ⟨s.resetTick, ticked, run, readReg_resetTick s, rfl, pack_resetTick s, rfl, rfl, rfl, rfl, rfl, rfl, rfl,
    rfl, rfl⟩

/-- Settles O13: the step is the reset tick. -/
theorem resetStateIsTheResetTicksResult : Obligations.ResetStateIsTheResetTicksResult := by
  intro s mode line
  obtain ⟨run, -⟩ := step_and_tick_of_reset_line mode line
  exact ⟨s.resetTick, run, s.resetTick_eq⟩

end Sys2Proof.Machine
end
